-- ==== Sys2Proof/Word.lean ====
section
/-! DEFINITION. The machine's bit-vector types and the spec's notation for widening and narrowing
(spec/00_scope.md, "How to read this spec"; spec/10_state.md R20, R24, R25). -/
namespace Sys2Proof

/-- A byte, the smallest addressable unit of memory (R80). -/
abbrev Byte := BitVec 8
/-- The contents of a general or control register (R20). -/
abbrev Word := BitVec 32
/-- A 40-bit long, held in a register pair (R24). -/
abbrev Long := BitVec 40

/-- `sext(x)` of the spec: the value of `x` read as a two's complement number. -/
abbrev sext {w : Nat} (x : BitVec w) : Int := x.toInt
/-- `zext(x)` of the spec: the value of `x` read as an unsigned number. -/
abbrev zext {w : Nat} (x : BitVec w) : Int := (x.toNat : Int)
/-- `trunc_w(v)` of the spec: the low `w` bits of the exact integer `v`. -/
abbrev trunc (w : Nat) (v : Int) : BitVec w := BitVec.ofInt w v

end Sys2Proof
end

