-- ==== Sys2Proof/Config.lean ====
section
/-! DEFINITION. What one implementation fixes: the launch parameters of spec/00_scope.md R8.
No free value stands here: the spec leaves no result undefined after which the machine goes on. -/
namespace Sys2Proof

/-- VARIANT: which of the three CPUs (R1, R8). -/
inductive Variant where
  | c62x
  | c64x
  | c67x
deriving DecidableEq, Repr

/-- ENDIAN: the byte order, shown in CSR.EN (R84). -/
inductive Endian where
  | little
  | big
deriving DecidableEq, Repr

/-- The two kinds of address that exist; every other address is absent (R89). -/
inductive MemKind where
  | program
  | data
deriving DecidableEq, Repr

/-- One region of MEMMAP: `size` bytes from `base` (R89). -/
structure Region where
  base : Nat
  size : Nat
  kind : MemKind
deriving DecidableEq, Repr

/-- The launch parameters (R8): fixed for a run, and free in every statement (log 5). -/
structure Params where
  variant : Variant
  endian : Endian
  memmap : List Region
  cpuId : Byte
  revId : Byte
deriving DecidableEq, Repr

end Sys2Proof
end

