-- ==== Sys2Proof/Syntax.lean ====
section
/-! DEFINITION. The instruction set as syntax: one constructor of `Instr` per row of spec/opcode_table.json,
in the table's order. Every bit of an instruction word that is not fixed by its row is a field here. -/
namespace Sys2Proof

/-- The two register files and the two sides of the CPU (R20, R26). -/
inductive Side where
  | a
  | b
deriving DecidableEq, Repr

/-- A register number within a file, the 5-bit field of R112. -/
abbrev RegNum := BitVec 5

/-- The registers a `creg` field can name (R160). -/
inductive CondReg where
  | b0
  | b1
  | b2
  | a1
  | a2
  | a0
deriving DecidableEq, Repr

/-- The condition of an instruction: the `creg` and `z` fields (R160, R161). -/
inductive Cond where
  | always
  | ifNonzero (r : CondReg)
  | ifZero (r : CondReg)
deriving DecidableEq, Repr

/-- The offset of format LSR: ucst5 or offsetR (R118, R282). -/
inductive Offset where
  | cst (c : BitVec 5)
  | reg (r : RegNum)
deriving DecidableEq, Repr

/-- What an addressing mode does to the base register (R282). -/
inductive Update where
  | none
  | pre
  | post
deriving DecidableEq, Repr

/-- The `mode` field of format LSR (R282); `add` is its bit 9. -/
structure AddrMode where
  update : Update
  offset : Offset
  add : Bool
deriving DecidableEq, Repr

/-- Three-operand form with a cross-capable operand (R113, R115, R116, R120). -/
structure XForm where
  cond : Cond
  side : Side
  p : Bool
  dst : RegNum
  src2 : RegNum
  src1 : RegNum
  x : Bool
deriving DecidableEq, Repr

/-- The same with a 5-bit constant in the src1 field (R126). -/
structure XCstForm where
  cond : Cond
  side : Side
  p : Bool
  dst : RegNum
  src2 : RegNum
  cst : BitVec 5
  x : Bool
deriving DecidableEq, Repr

/-- Constant and register operands, none of them cross-capable (R113, R117). -/
structure CForm where
  cond : Cond
  side : Side
  p : Bool
  dst : RegNum
  src2 : RegNum
  cst : BitVec 5
deriving DecidableEq, Repr

/-- Two register operands, none of them cross-capable (R113, R117). -/
structure RForm where
  cond : Cond
  side : Side
  p : Bool
  dst : RegNum
  src2 : RegNum
  src1 : RegNum
deriving DecidableEq, Repr

/-- Unary form with a cross-capable operand (R180, R190). -/
structure XUnForm where
  cond : Cond
  side : Side
  p : Bool
  dst : RegNum
  src2 : RegNum
  x : Bool
deriving DecidableEq, Repr

/-- Unary form on a long operand (R180, R190, R193). -/
structure UnForm where
  cond : Cond
  side : Side
  p : Bool
  dst : RegNum
  src2 : RegNum
deriving DecidableEq, Repr

/-- Format FIELD (R122). -/
structure FieldForm where
  cond : Cond
  side : Side
  p : Bool
  dst : RegNum
  src2 : RegNum
  csta : BitVec 5
  cstb : BitVec 5
deriving DecidableEq, Repr

/-- Formats ADDK and MVK (R121, R123). -/
structure Cst16Form where
  cond : Cond
  side : Side
  p : Bool
  dst : RegNum
  cst : BitVec 16
deriving DecidableEq, Repr

/-- Format BDISP (R124). -/
structure DispForm where
  cond : Cond
  side : Side
  p : Bool
  cst : BitVec 21
deriving DecidableEq, Repr

/-- Branch to a register, .S2 only (R215). -/
structure BRegForm where
  cond : Cond
  p : Bool
  src2 : RegNum
  x : Bool
deriving DecidableEq, Repr

/-- B IRP and B NRP, .S2 only (R216, R217). -/
structure CondForm where
  cond : Cond
  p : Bool
deriving DecidableEq, Repr

/-- MVC from a control register, .S2 only (R226); `cr` is the number of R36. -/
structure MvcReadForm where
  cond : Cond
  p : Bool
  dst : RegNum
  cr : BitVec 5
deriving DecidableEq, Repr

/-- MVC to a control register, .S2 only (R226); `cr` is the number of R36. -/
structure MvcWriteForm where
  cond : Cond
  p : Bool
  cr : BitVec 5
  src2 : RegNum
  x : Bool
deriving DecidableEq, Repr

/-- Format LSR (R118): `side` is the file of the data register (bit `s`), `y` the unit and the file of base and offset. -/
structure MemForm where
  cond : Cond
  side : Side
  p : Bool
  y : Side
  data : RegNum
  base : RegNum
  mode : AddrMode
deriving DecidableEq, Repr

/-- Format LS15 (R119): always on .D2; `y` chooses B14 (false) or B15 (true). -/
structure Mem15Form where
  cond : Cond
  side : Side
  p : Bool
  y : Bool
  data : RegNum
  off : BitVec 15
deriving DecidableEq, Repr

/-- NOP of 1 to 8 cycles (R125, R165): `src` is the count minus 1. -/
structure NopForm where
  src : BitVec 3
  p : Bool
deriving DecidableEq, Repr

/-- NOP of 9 cycles (R125, R165). -/
structure Nop9Form where
  p : Bool
deriving DecidableEq, Repr

/-- IDLE (R125, R166); `s` is ignored. -/
structure IdleForm where
  s : Bool
  p : Bool
deriving DecidableEq, Repr

/-- The instructions, one constructor per row of spec/opcode_table.json. -/
inductive Instr where
  /-- ADD, format L: scst5, xsint, sint (R181). -/
  | addLCst (o : XCstForm)
  /-- ADD, format L: sint, xsint, sint (R181). -/
  | addLReg (o : XForm)
  /-- SUB, format L: scst5, xsint, sint (R195). -/
  | subLCst (o : XCstForm)
  /-- SUB, format L: sint, xsint, sint (R195). -/
  | subLReg (o : XForm)
  /-- SSUB, format L: scst5, xsint, sint (R194). -/
  | ssubCst (o : XCstForm)
  /-- SSUB, format L: sint, xsint, sint (R194). -/
  | ssubReg (o : XForm)
  /-- SADD, format L: scst5, xsint, sint (R192). -/
  | saddCst (o : XCstForm)
  /-- SADD, format L: sint, xsint, sint (R192). -/
  | saddReg (o : XForm)
  /-- SUB, format L: xsint, sint, sint (R195). -/
  | subLRegX1 (o : XForm)
  /-- ABS, format L: xsint, sint (R180). -/
  | absWord (o : XUnForm)
  /-- SSUB, format L: xsint, sint, sint (R194). -/
  | ssubRegX1 (o : XForm)
  /-- ADD, format L: scst5, slong, slong (R181). -/
  | addLCstLong (o : CForm)
  /-- ADD, format L: xsint, slong, slong (R181). -/
  | addLRegLong (o : XForm)
  /-- ADD, format L: sint, xsint, slong (R181). -/
  | addLWide (o : XForm)
  /-- SUB, format L: scst5, slong, slong (R195). -/
  | subLCstLong (o : CForm)
  /-- SUB, format L: sint, xsint, slong (R195). -/
  | subLWide (o : XForm)
  /-- ADDU, format L: xuint, ulong, ulong (R182). -/
  | adduRegLong (o : XForm)
  /-- ADDU, format L: uint, xuint, ulong (R182). -/
  | adduWide (o : XForm)
  /-- SSUB, format L: scst5, slong, slong (R194). -/
  | ssubCstLong (o : CForm)
  /-- SUBU, format L: uint, xuint, ulong (R196). -/
  | subuWide (o : XForm)
  /-- SADD, format L: scst5, slong, slong (R192). -/
  | saddCstLong (o : CForm)
  /-- SADD, format L: xsint, slong, slong (R192). -/
  | saddRegLong (o : XForm)
  /-- SUB, format L: xsint, sint, slong (R195). -/
  | subLWideX1 (o : XForm)
  /-- ABS, format L: slong, slong (R180). -/
  | absLong (o : UnForm)
  /-- SUBU, format L: xuint, uint, ulong (R196). -/
  | subuWideX1 (o : XForm)
  /-- SAT, format L: slong, sint (R193). -/
  | sat (o : UnForm)
  /-- CMPGT, format L: scst5, slong, uint (R185). -/
  | cmpgtCstLong (o : CForm)
  /-- CMPGT, format L: xsint, slong, uint (R185). -/
  | cmpgtRegLong (o : XForm)
  /-- CMPGT, format L: scst5, xsint, uint (R185). -/
  | cmpgtCst (o : XCstForm)
  /-- CMPGT, format L: sint, xsint, uint (R185). -/
  | cmpgtReg (o : XForm)
  /-- SUBC, format L: uint, xuint, uint (R197). -/
  | subc (o : XForm)
  /-- CMPGTU, format L: ucst4, ulong, uint (R186). -/
  | cmpgtuCstLong (o : CForm)
  /-- CMPGTU, format L: xuint, ulong, uint (R186). -/
  | cmpgtuRegLong (o : XForm)
  /-- CMPGTU, format L: ucst4, xuint, uint (R186). -/
  | cmpgtuCst (o : XCstForm)
  /-- CMPGTU, format L: uint, xuint, uint (R186). -/
  | cmpgtuReg (o : XForm)
  /-- CMPEQ, format L: scst5, slong, uint (R184). -/
  | cmpeqCstLong (o : CForm)
  /-- CMPEQ, format L: xsint, slong, uint (R184). -/
  | cmpeqRegLong (o : XForm)
  /-- CMPEQ, format L: scst5, xsint, uint (R184). -/
  | cmpeqCst (o : XCstForm)
  /-- CMPEQ, format L: sint, xsint, uint (R184). -/
  | cmpeqReg (o : XForm)
  /-- CMPLT, format L: scst5, slong, uint (R187). -/
  | cmpltCstLong (o : CForm)
  /-- CMPLT, format L: xsint, slong, uint (R187). -/
  | cmpltRegLong (o : XForm)
  /-- CMPLT, format L: scst5, xsint, uint (R187). -/
  | cmpltCst (o : XCstForm)
  /-- CMPLT, format L: sint, xsint, uint (R187). -/
  | cmpltReg (o : XForm)
  /-- CMPLTU, format L: ucst4, ulong, uint (R188). -/
  | cmpltuCstLong (o : CForm)
  /-- CMPLTU, format L: xuint, ulong, uint (R188). -/
  | cmpltuRegLong (o : XForm)
  /-- CMPLTU, format L: ucst4, xuint, uint (R188). -/
  | cmpltuCst (o : XCstForm)
  /-- CMPLTU, format L: uint, xuint, uint (R188). -/
  | cmpltuReg (o : XForm)
  /-- NORM, format L: slong, uint (R190). -/
  | normLong (o : UnForm)
  /-- NORM, format L: xsint, uint (R190). -/
  | normWord (o : XUnForm)
  /-- LMBD, format L: cst5, xuint, uint (R189). -/
  | lmbdCst (o : XCstForm)
  /-- LMBD, format L: uint, xuint, uint (R189). -/
  | lmbdReg (o : XForm)
  /-- XOR, format L: scst5, xuint, uint (R198). -/
  | xorLCst (o : XCstForm)
  /-- XOR, format L: uint, xuint, uint (R198). -/
  | xorLReg (o : XForm)
  /-- AND, format L: scst5, xuint, uint (R183). -/
  | andLCst (o : XCstForm)
  /-- AND, format L: uint, xuint, uint (R183). -/
  | andLReg (o : XForm)
  /-- OR, format L: scst5, xuint, uint (R191). -/
  | orLCst (o : XCstForm)
  /-- OR, format L: uint, xuint, uint (R191). -/
  | orLReg (o : XForm)
  /-- ADD2, format S: sint, xsint, sint (R212). -/
  | add2 (o : XForm)
  /-- ADD, format S: scst5, xsint, sint (R210). -/
  | addSCst (o : XCstForm)
  /-- ADD, format S: sint, xsint, sint (R210). -/
  | addSReg (o : XForm)
  /-- XOR, format S: scst5, xuint, uint (R234). -/
  | xorSCst (o : XCstForm)
  /-- XOR, format S: uint, xuint, uint (R234). -/
  | xorSReg (o : XForm)
  /-- SUB2, format S: sint, xsint, sint (R233). -/
  | sub2 (o : XForm)
  /-- SHL, format S: ucst5, xuint, ulong (R228). -/
  | shlCstWide (o : XCstForm)
  /-- SHL, format S: uint, xuint, ulong (R228). -/
  | shlRegWide (o : XForm)
  /-- SUB, format S: scst5, xsint, sint (R232). -/
  | subSCst (o : XCstForm)
  /-- SUB, format S: sint, xsint, sint (R232). -/
  | subSReg (o : XForm)
  /-- OR, format S: scst5, xuint, uint (R227). -/
  | orSCst (o : XCstForm)
  /-- OR, format S: uint, xuint, uint (R227). -/
  | orSReg (o : XForm)
  /-- AND, format S: scst5, xuint, uint (R213). -/
  | andSCst (o : XCstForm)
  /-- AND, format S: uint, xuint, uint (R213). -/
  | andSReg (o : XForm)
  /-- SSHL, format S: ucst5, xsint, sint (R231). -/
  | sshlCst (o : XCstForm)
  /-- SSHL, format S: uint, xsint, sint (R231). -/
  | sshlReg (o : XForm)
  /-- SHRU, format S: ucst5, ulong, ulong (R230). -/
  | shruCstLong (o : CForm)
  /-- SHRU, format S: uint, ulong, ulong (R230). -/
  | shruRegLong (o : RForm)
  /-- SHRU, format S: ucst5, xuint, uint (R230). -/
  | shruCst (o : XCstForm)
  /-- SHRU, format S: uint, xuint, uint (R230). -/
  | shruReg (o : XForm)
  /-- EXTU, format S: uint, xuint, uint (R220). -/
  | extuReg (o : XForm)
  /-- EXT, format S: uint, xsint, sint (R219). -/
  | extReg (o : XForm)
  /-- SHL, format S: ucst5, slong, slong (R228). -/
  | shlCstLong (o : CForm)
  /-- SHL, format S: uint, slong, slong (R228). -/
  | shlRegLong (o : RForm)
  /-- SHL, format S: ucst5, xsint, sint (R228). -/
  | shlCst (o : XCstForm)
  /-- SHL, format S: uint, xsint, sint (R228). -/
  | shlReg (o : XForm)
  /-- SHR, format S: ucst5, slong, slong (R229). -/
  | shrCstLong (o : CForm)
  /-- SHR, format S: uint, slong, slong (R229). -/
  | shrRegLong (o : RForm)
  /-- SHR, format S: ucst5, xsint, sint (R229). -/
  | shrCst (o : XCstForm)
  /-- SHR, format S: uint, xsint, sint (R229). -/
  | shrReg (o : XForm)
  /-- SET, format S: uint, xuint, uint (R221). -/
  | setReg (o : XForm)
  /-- CLR, format S: uint, xuint, uint (R218). -/
  | clrReg (o : XForm)
  /-- MPYH, format M: smsb16, xsmsb16, sint (R255). -/
  | mpyh (o : XForm)
  /-- SMPYH, format M: smsb16, xsmsb16, sint (R270). -/
  | smpyh (o : XForm)
  /-- MPYHSU, format M: smsb16, xumsb16, sint (R258). -/
  | mpyhsu (o : XForm)
  /-- MPYHUS, format M: umsb16, xsmsb16, sint (R257). -/
  | mpyhus (o : XForm)
  /-- MPYHU, format M: umsb16, xumsb16, uint (R256). -/
  | mpyhu (o : XForm)
  /-- MPYHL, format M: smsb16, xslsb16, sint (R259). -/
  | mpyhl (o : XForm)
  /-- SMPYHL, format M: smsb16, xslsb16, sint (R268). -/
  | smpyhl (o : XForm)
  /-- MPYHSLU, format M: smsb16, xulsb16, sint (R262). -/
  | mpyhslu (o : XForm)
  /-- MPYHULS, format M: umsb16, xslsb16, sint (R261). -/
  | mpyhuls (o : XForm)
  /-- MPYHLU, format M: umsb16, xulsb16, uint (R260). -/
  | mpyhlu (o : XForm)
  /-- MPYLH, format M: slsb16, xsmsb16, sint (R263). -/
  | mpylh (o : XForm)
  /-- SMPYLH, format M: slsb16, xsmsb16, sint (R269). -/
  | smpylh (o : XForm)
  /-- MPYLSHU, format M: slsb16, xumsb16, sint (R266). -/
  | mpylshu (o : XForm)
  /-- MPYLUHS, format M: ulsb16, xsmsb16, sint (R265). -/
  | mpyluhs (o : XForm)
  /-- MPYLHU, format M: ulsb16, xumsb16, uint (R264). -/
  | mpylhu (o : XForm)
  /-- MPY, format M: scst5, xslsb16, sint (R251). -/
  | mpyCst (o : XCstForm)
  /-- MPY, format M: slsb16, xslsb16, sint (R251). -/
  | mpyReg (o : XForm)
  /-- SMPY, format M: slsb16, xslsb16, sint (R267). -/
  | smpy (o : XForm)
  /-- MPYSU, format M: slsb16, xulsb16, sint (R254). -/
  | mpysuReg (o : XForm)
  /-- MPYUS, format M: ulsb16, xslsb16, sint (R253). -/
  | mpyus (o : XForm)
  /-- MPYSU, format M: scst5, xulsb16, sint (R254). -/
  | mpysuCst (o : XCstForm)
  /-- MPYU, format M: ulsb16, xulsb16, uint (R252). -/
  | mpyu (o : XForm)
  /-- B, format S: src2 xuint (register form) (R215). -/
  | bReg (o : BRegForm)
  /-- B_IRP, format S: none (src2 field = 00110, IRP) (R216). -/
  | bIrp (o : CondForm)
  /-- B_NRP, format S: none (src2 field = 00111, NRP) (R217). -/
  | bNrp (o : CondForm)
  /-- MVC, format S: control register (number in src2 field 22:18), dst uint (R226). -/
  | mvcRead (o : MvcReadForm)
  /-- MVC, format S: src2 xuint, control register (number in dst field 27:23) (R226). -/
  | mvcWrite (o : MvcWriteForm)
  /-- ADDK, format ADDK: scst16, dst uint (R211). -/
  | addk (o : Cst16Form)
  /-- EXTU, format FIELD: src2, csta, cstb, dst (constant form) (R220). -/
  | extuCst (o : FieldForm)
  /-- EXT, format FIELD: src2, csta, cstb, dst (constant form) (R219). -/
  | extCst (o : FieldForm)
  /-- SET, format FIELD: src2, csta, cstb, dst (constant form) (R221). -/
  | setCst (o : FieldForm)
  /-- CLR, format FIELD: src2, csta, cstb, dst (constant form) (R218). -/
  | clrCst (o : FieldForm)
  /-- MVK, format MVK: cst16, dst (R224). -/
  | mvk (o : Cst16Form)
  /-- MVKH, format MVK: cst16, dst (R225). -/
  | mvkh (o : Cst16Form)
  /-- B, format BDISP: scst21 (word displacement from PCE1) (R214). -/
  | bDisp (o : DispForm)
  /-- ADD, format D: src2 sint, src1 sint, dst sint (R284). -/
  | addDReg (o : RForm)
  /-- SUB, format D: src2 sint, src1 sint, dst sint (R285). -/
  | subDReg (o : RForm)
  /-- ADD, format D: src2 sint, src1 ucst5, dst sint (R284). -/
  | addDCst (o : CForm)
  /-- SUB, format D: src2 sint, src1 ucst5, dst sint (R285). -/
  | subDCst (o : CForm)
  /-- ADDAB, format D: src2 sint, src1 sint, dst sint (R286). -/
  | addabReg (o : RForm)
  /-- SUBAB, format D: src2 sint, src1 sint, dst sint (R287). -/
  | subabReg (o : RForm)
  /-- ADDAB, format D: src2 sint, src1 ucst5, dst sint (R286). -/
  | addabCst (o : CForm)
  /-- SUBAB, format D: src2 sint, src1 ucst5, dst sint (R287). -/
  | subabCst (o : CForm)
  /-- ADDAH, format D: src2 sint, src1 sint, dst sint (R286). -/
  | addahReg (o : RForm)
  /-- SUBAH, format D: src2 sint, src1 sint, dst sint (R287). -/
  | subahReg (o : RForm)
  /-- ADDAH, format D: src2 sint, src1 ucst5, dst sint (R286). -/
  | addahCst (o : CForm)
  /-- SUBAH, format D: src2 sint, src1 ucst5, dst sint (R287). -/
  | subahCst (o : CForm)
  /-- ADDAW, format D: src2 sint, src1 sint, dst sint (R286). -/
  | addawReg (o : RForm)
  /-- SUBAW, format D: src2 sint, src1 sint, dst sint (R287). -/
  | subawReg (o : RForm)
  /-- ADDAW, format D: src2 sint, src1 ucst5, dst sint (R286). -/
  | addawCst (o : CForm)
  /-- SUBAW, format D: src2 sint, src1 ucst5, dst sint (R287). -/
  | subawCst (o : CForm)
  /-- LDHU, format LSR: base plus ucst5 or offsetR (R293). -/
  | ldhu (o : MemForm)
  /-- LDHU, format LS15: B14 or B15 plus ucst15 (R293). -/
  | ldhu15 (o : Mem15Form)
  /-- LDBU, format LSR: base plus ucst5 or offsetR (R291). -/
  | ldbu (o : MemForm)
  /-- LDBU, format LS15: B14 or B15 plus ucst15 (R291). -/
  | ldbu15 (o : Mem15Form)
  /-- LDB, format LSR: base plus ucst5 or offsetR (R290). -/
  | ldb (o : MemForm)
  /-- LDB, format LS15: B14 or B15 plus ucst15 (R290). -/
  | ldb15 (o : Mem15Form)
  /-- STB, format LSR: base plus ucst5 or offsetR (R295). -/
  | stb (o : MemForm)
  /-- STB, format LS15: B14 or B15 plus ucst15 (R295). -/
  | stb15 (o : Mem15Form)
  /-- LDH, format LSR: base plus ucst5 or offsetR (R292). -/
  | ldh (o : MemForm)
  /-- LDH, format LS15: B14 or B15 plus ucst15 (R292). -/
  | ldh15 (o : Mem15Form)
  /-- STH, format LSR: base plus ucst5 or offsetR (R296). -/
  | sth (o : MemForm)
  /-- STH, format LS15: B14 or B15 plus ucst15 (R296). -/
  | sth15 (o : Mem15Form)
  /-- LDW, format LSR: base plus ucst5 or offsetR (R294). -/
  | ldw (o : MemForm)
  /-- LDW, format LS15: B14 or B15 plus ucst15 (R294). -/
  | ldw15 (o : Mem15Form)
  /-- STW, format LSR: base plus ucst5 or offsetR (R297). -/
  | stw (o : MemForm)
  /-- STW, format LS15: B14 or B15 plus ucst15 (R297). -/
  | stw15 (o : Mem15Form)
  /-- LDDW, format LSR: base plus ucst5 or offsetR (R298). -/
  | lddw (o : MemForm)
  /-- NOP, format NOP: count 1..8, src field (16:13) = count - 1, bit 16 = 0 (R165). -/
  | nop (o : NopForm)
  /-- NOP, format NOP: count 9: src field (16:13) = 1000 (R165). -/
  | nop9 (o : Nop9Form)
  /-- IDLE, format IDLE: none (R166). -/
  | idle (o : IdleForm)
deriving DecidableEq, Repr

end Sys2Proof
end

