-- ==== Sys2Proof/Machine/State.lean ====
section
/-! DEFINITION. The state of the machine as plain data, its value at reset, and the reasons a step can stop
(spec/10_state.md R20-R55; spec/70_reset_and_hazards.md R391). -/
namespace Sys2Proof.Machine

/-- Memory: pairs of address and byte, addresses strictly rising and below 2^32, no entry equal to what an unlisted
address reads as (R53, R80; log 3). `Memory.wf` of Machine/Memory.lean is that form. -/
abbrev Memory := List Host.Cell

/-- The two general register files (R20, R21). Off C64x the registers 16 to 31 exist here and are never reached. -/
structure Regs where
  a : Vector Word 32
  b : Vector Word 32
deriving DecidableEq, Repr

/-- The control register file (R34-R52). ISTP is held as its field ISTB (R45); ISR and ICR hold nothing (R42, R43). -/
structure Ctrl where
  amr : Word
  csr : Word
  ifr : Word
  ier : Word
  istb : BitVec 22
  irp : Word
  nrp : Word
  fadcr : Word
  faucr : Word
  fmcr : Word
deriving DecidableEq, Repr

/-- What a pending write to the control register file does when it lands (R36-R47, R410). -/
inductive CtrlDest where
  | amr
  | csr
  | isr
  | icr
  | ier
  | istp
  | irp
  | nrp
  | fadcr
  | faucr
  | fmcr
deriving DecidableEq, Repr

/-- Where a pending write lands. -/
inductive Target where
  | gpr (side : Side) (r : RegNum)
  | ctrl (c : CtrlDest)
deriving DecidableEq, Repr

/-- An entry of PW (R54). `left` is cycles_left. -/
structure Write where
  target : Target
  value : Word
  left : Nat
deriving DecidableEq, Repr

/-- The kind of a pending branch (R54). -/
inductive BranchKind where
  | plain
  | irp
  | nrp
deriving DecidableEq, Repr

/-- An entry of PB (R54). -/
structure Branch where
  target : Word
  left : Nat
  kind : BranchKind
deriving DecidableEq, Repr

/-- The width of a memory access (R80, R81). -/
inductive Access where
  | byte
  | half
  | word
  | dword
deriving DecidableEq, Repr

/-- A load of PM (R54). -/
structure Load where
  addr : Word
  size : Access
  signed : Bool
  side : Side
  dst : RegNum
  left : Nat
deriving DecidableEq, Repr

/-- A store of PM (R54). -/
structure Store where
  addr : Word
  size : Access
  value : Word
  left : Nat
deriving DecidableEq, Repr

/-- What is in flight (R54), and the two requests that R155 step 4 hands to step 7 (log 8). -/
structure Flight where
  pw : List Write
  pb : List Branch
  pmLoads : List Load
  pmStores : List Store
  psat : List Nat
  nopcnt : Nat
  nopreq : Nat
  idle : Bool
  idlereq : Bool
  bshadow : Nat
deriving DecidableEq, Repr

/-- What the environment does in one cycle (R343, R350; log 6): whether it asserts reset, which requests arrive (bit n for
interrupt n), and whether it holds back an interrupt that could be taken. -/
structure EnvInput where
  reset : Bool
  requests : Word
  hold : Bool
deriving DecidableEq, Repr

/-- The whole state. `params` and `env` are the model's own fields (log 5, log 6). -/
structure State where
  params : Params
  regs : Regs
  ctrl : Ctrl
  pc : Word
  pce1 : Word
  mem : Memory
  flight : Flight
  env : List EnvInput
deriving DecidableEq, Repr

/-- Why a step stops. Each is a stop of the model where the spec defines no step (R10, R92, R93): SAFE, since no
postcondition holds of a stop. -/
inductive Fault where
  /-- Fetch or a meaning: the word is not an instruction of the spec, or not of this VARIANT (R128). Safe. -/
  | reservedEncoding
  /-- A meaning: a register number that the VARIANT does not have (R21). Safe. -/
  | noSuchRegister
  /-- A meaning: a long operand named by an odd register (R112). Safe. -/
  | oddRegisterForPair
  /-- MVC: a control register that it may not access in this direction (R36, R226). Safe. -/
  | illegalControlRegister
  /-- Fetch: the eighth word of the fetch packet has p = 1 (R153). Safe. -/
  | executePacketCrossesFetchPacket
  /-- The check of an execute packet: it breaks a constraint of R162. Safe. -/
  | resourceConflict
  /-- Landing: two writes land on one register in one cycle (R157). Safe. -/
  | writeConflict
  /-- Landing: two branches land in one cycle (R155 step 6). Safe. -/
  | branchConflict
  /-- The memory phase: two stores of one packet overlap (R95). Safe. -/
  | parallelStoreConflict
  /-- A load or store: the address is not a multiple of the access size (R85, R288). Safe. -/
  | misalignedAccess
  /-- A branch or fetch: the address is not a multiple of 4 (R86). Safe. -/
  | misalignedBranchTarget
  /-- An address computation through a register whose AMR mode is 11 (R39, R283). Safe. -/
  | reservedAmrMode
  /-- CLR and SET: csta is greater than cstb (R218, R221). Safe. -/
  | fieldBounds
  /-- SSHL: a register amount greater than 31 (R231). Safe. -/
  | sshlAmount
  /-- Fetch: the address is not program memory; the spec's stuck state (R92; log 9). Safe. -/
  | stuckFetch
  /-- The memory phase: a byte accessed is not data memory; the spec's stuck state (R93; log 9). Safe. -/
  | stuckData
deriving DecidableEq, Repr

/-- Why an instruction is refused. -/
inductive Refusal where
  /-- `exec`: the instruction has no meaning in the model yet. No arm uses it: every row has its meaning. Safe. -/
  | notModelled (mnemonic : String)
deriving DecidableEq, Repr

/-- The answer of a step or of a meaning. -/
abbrev Result := Host.Outcome State Fault Refusal

/-- The general registers at reset: the spec gives no value; the model's is 0 (log 1, DESIGN CHOICE). -/
def Regs.reset : Regs := ⟨Vector.replicate 32 0, Vector.replicate 32 0⟩

/-- CSR at reset: CPU ID, REVISION ID and EN as the parameters, every other field 0 (R37, R55). -/
def csrReset (p : Params) : Word :=
  p.cpuId ++ p.revId ++ 0#7 ++ BitVec.ofBool (p.endian == .little) ++ 0#8

/-- The control registers at reset (R55); IRP and NRP have no value there, the model's is 0 (log 2, DESIGN CHOICE). -/
def Ctrl.reset (p : Params) : Ctrl :=
  { amr := 0, csr := csrReset p, ifr := 0, ier := 1, istb := 0, irp := 0, nrp := 0, fadcr := 0, faucr := 0, fmcr := 0 }

/-- Nothing in flight (R55). -/
def Flight.empty : Flight :=
  { pw := [], pb := [], pmLoads := [], pmStores := [], psat := [], nopcnt := 0, nopreq := 0, idle := false
    idlereq := false, bshadow := 0 }

/-- The launch parameters of `State.reset` (log 4): the spec's defaults C62x and little, the MEMMAP of
spec/95_test_vectors.md, both ids 0. -/
def Params.launch : Params :=
  { variant := .c62x, endian := .little
    memmap := [⟨0, 0x10000, .program⟩, ⟨0x80000000, 0x10000, .data⟩]
    cpuId := 0, revId := 0 }

/-- The machine right after reset (R55, R391), with no program loaded (log 18). -/
def State.reset : State :=
  { params := Params.launch, regs := Regs.reset, ctrl := Ctrl.reset Params.launch, pc := 0, pce1 := 0, mem := []
    flight := Flight.empty, env := [] }

end Sys2Proof.Machine
end

