-- ==== Sys2Proof/Machine/Memory.lean ====
section
/-! DEFINITION. The operations over memory: one byte, then the accesses of R84 built from it; the address map (R89).
(spec/20_memory.md R80-R101). -/
namespace Sys2Proof.Machine

/-- What an unlisted address reads as (log 3, DESIGN CHOICE). -/
def unlistedByte : Byte := 0

/-- The byte at an address. -/
def readByte : Memory → Nat → Byte
  | [], _ => unlistedByte
  | (k, v) :: m, a => if k = a then v else readByte m a

/-- Put an entry before a memory whose addresses all lie higher, unless it is what an unlisted address reads as. -/
def consByte (a : Nat) (v : Byte) (m : Memory) : Memory := if v = unlistedByte then m else (a, v) :: m

/-- Write one byte, keeping the canonical form. -/
def writeByte : Memory → Nat → Byte → Memory
  | [], a, v => consByte a v []
  | (k, x) :: m, a, v =>
    if a < k then consByte a v ((k, x) :: m)
    else if a = k then consByte a v m
    else (k, x) :: writeByte m a v

/-- The canonical form: addresses strictly rising and below 2^32, no entry that an unlisted address reads as. -/
def Memory.wf : Memory → Bool
  | [] => true
  | (k, v) :: m => decide (k < 2 ^ 32) && decide (v ≠ unlistedByte) && m.all (fun c => decide (k < c.1)) && Memory.wf m

/-- The number of bytes of an access (R80). -/
def Access.bytes : Access → Nat
  | .byte => 1
  | .half => 2
  | .word => 4
  | .dword => 8

/-- The shift that scales an offset: the logarithm of the access size (R282, R289). -/
def Access.scale : Access → Nat
  | .byte => 0
  | .half => 1
  | .word => 2
  | .dword => 3

/-- The `n` bytes from an address, lowest address first. -/
def bytesAt (m : Memory) (a : Nat) : Nat → List Byte
  | 0 => []
  | n + 1 => readByte m a :: bytesAt m (a + 1) n

/-- Write bytes to consecutive addresses. -/
def writeBytes (m : Memory) (a : Nat) : List Byte → Memory
  | [] => m
  | b :: bs => writeBytes (writeByte m a b) (a + 1) bs

/-- The number that bytes stand for, the first one the least significant. -/
def natOfBytes : List Byte → Nat
  | [] => 0
  | b :: bs => b.toNat + 256 * natOfBytes bs

/-- The low `n` bytes of a number, the least significant first. -/
def bytesOfNat (v : Nat) : Nat → List Byte
  | 0 => []
  | n + 1 => BitVec.ofNat 8 v :: bytesOfNat (v / 256) n

/-- Bytes in the order of memory, from or to least significant first (R84). -/
def byteOrder (e : Endian) (l : List Byte) : List Byte :=
  match e with
  | .little => l
  | .big => l.reverse

/-- MemRead of R84. -/
def memRead (e : Endian) (m : Memory) (a n : Nat) : Nat := natOfBytes (byteOrder e (bytesAt m a n))

/-- MemWrite of R84. -/
def memWrite (e : Endian) (m : Memory) (a n v : Nat) : Memory := writeBytes m a (byteOrder e (bytesOfNat v n))

/-- Does a region hold an address (R89)? -/
def inRegion (r : Region) (a : Nat) : Bool := decide (r.base ≤ a ∧ a < r.base + r.size)

/-- What MEMMAP says of an address: the kind of the first region that holds it, or absent (R89). -/
def kindAt (map : List Region) (a : Nat) : Option MemKind :=
  match map with
  | [] => none
  | r :: rs => if inRegion r a then some r.kind else kindAt rs a

/-- All `n` bytes from an address are of one kind (R92, R93; log 24). -/
def allKind (map : List Region) (k : MemKind) (a : Nat) : Nat → Bool
  | 0 => true
  | n + 1 => decide (kindAt map a = some k) && allKind map k (a + 1) n

end Sys2Proof.Machine
end

