-- ==== Sys2Proof/Machine/Flags.lean ====
section
/-! DEFINITION. The results that instructions compute: saturation and the SAT condition, comparison results, bit counts,
shifts, bit fields, the halves of a multiply (spec/00_scope.md R9; spec/41_l_unit.md to spec/43_m_unit.md). There are no
condition codes (R29): the one status bit set by arithmetic is SAT (R37). -/
namespace Sys2Proof.Machine

/-- `sat_w(i)`: `i` clamped to the `w`-bit signed numbers (R9). -/
def clamp (w : Nat) (i : Int) : Int := max (-(2 ^ (w - 1) : Int)) (min i (2 ^ (w - 1) - 1))

/-- The condition under which a saturating instruction sets SAT: the exact result does not fit (R37). -/
def saturates (w : Nat) (i : Int) : Bool := decide (i ≠ clamp w i)

/-- The result of a comparison: 1 or 0 in a general register (R29, R184). -/
def truth (b : Bool) : Word := if b then 1 else 0

/-- ABS on a `w`-bit value, with the most negative one clamped (R180). -/
def absSat (w : Nat) (v : Int) : Int :=
  if 0 ≤ v then v else if v = -(2 ^ (w - 1) : Int) then 2 ^ (w - 1) - 1 else -v

/-- How many of the bits `n - 1` down to 0 of `b` come before the first one equal to `k`; all `n` when there is none. -/
def countUntil {w : Nat} (b : BitVec w) (k : Bool) : Nat → Nat
  | 0 => 0
  | n + 1 => if b.getLsbD n = k then 0 else countUntil b k n + 1

/-- LMBD: the positions before the leftmost bit equal to `k` (R189). -/
def leftmost (k : Bool) (b : Word) : Nat := countUntil b k 32

/-- NORM: the bits below the sign bit that equal it, up to the first that differs (R190). -/
def redundantSign {w : Nat} (b : BitVec w) : Nat := countUntil b (!b.getLsbD (w - 1)) (w - 1)

/-- SUBC: one step of a restoring division, with an unsigned comparison (R197). -/
def subcStep (a b : Word) : Int :=
  if zext b ≤ zext a then (zext a - zext b) * 2 + 1 else zext a * 2

/-- Two 16-bit operations side by side, no carry between them (R212, R233). -/
def halves (f : BitVec 16 → BitVec 16 → BitVec 16) (a b : Word) : Word :=
  f (a.extractLsb' 16 16) (b.extractLsb' 16 16) ++ f (a.extractLsb' 0 16) (b.extractLsb' 0 16)

/-- The amount of SHL, SHR and SHRU in a register form: the low six bits, values above 39 taken as 40 (R222). -/
def shiftAmount (a : Word) : Nat :=
  let n := (a.extractLsb' 0 6).toNat
  if 39 < n then 40 else n

/-- The mask of bits `csta` through `cstb` (R218). -/
def fieldMask (csta cstb : Nat) : Word := BitVec.ofNat 32 ((2 ^ (cstb - csta + 1) - 1) * 2 ^ csta)

/-- CLR: bits `csta` through `cstb` become 0 (R218). -/
def clearField (b : Word) (csta cstb : Nat) : Word := b &&& ~~~(fieldMask csta cstb)

/-- SET: bits `csta` through `cstb` become 1 (R221). -/
def setField (b : Word) (csta cstb : Nat) : Word := b ||| fieldMask csta cstb

/-- EXT: shift left by `csta`, then arithmetically right by `cstb` (R219). -/
def extractSigned (b : Word) (csta cstb : Nat) : Word := (b <<< csta).sshiftRight cstb

/-- EXTU: shift left by `csta`, then logically right by `cstb` (R220). -/
def extractUnsigned (b : Word) (csta cstb : Nat) : Word := (b <<< csta) >>> cstb

/-- `csta` and `cstb` in the register forms of CLR, EXT, EXTU and SET: bits 9:5 and 4:0 of src1 (R218). -/
def fieldBoundsOf (a : Word) : Nat × Nat := ((a.extractLsb' 5 5).toNat, (a.extractLsb' 0 5).toNat)

/-- The 16 least significant bits (R127). -/
def lsb16 (a : Word) : BitVec 16 := a.extractLsb' 0 16

/-- The 16 most significant bits (R127). -/
def msb16 (a : Word) : BitVec 16 := a.extractLsb' 16 16

end Sys2Proof.Machine
end

