-- ==== Sys2Proof/Decode.lean ====
section
/-! DEFINITION. Decoding of one instruction word, total and rejecting by name (spec/30_encoding.md R110-R128), and after it
the encoder, from the same tables. Which registers and which instructions a VARIANT has is not a matter of the word:
Machine/Legality.lean checks it. -/
namespace Sys2Proof

/-- Why a word is not an instruction of the spec (R128). Each is FAULT(reserved_encoding) in the machine. -/
inductive DecodeError where
  /-- bits 6:2 = 01100 or 11100, or a NOP or IDLE with a nonzero reserved bit -/
  | reservedFormat
  /-- an op value that no rule of 41-44 lists -/
  | reservedOpcode
  /-- creg = 000 with z = 1, or creg = 111 -/
  | reservedCondition
  /-- mode 0010, 0011, 0110 or 0111 of format LSR -/
  | reservedMode
  /-- a nonzero value in a field that the instruction's rule gives as zero, or s = 0 in a .S2-only instruction -/
  | reservedField
deriving DecidableEq, Repr

/-! ### Fields and their codes -/

/-- The field of `n` bits of a word whose lowest bit is `lo` (R9). -/
def field (w : Word) (lo n : Nat) : BitVec n := w.extractLsb' lo n

/-- Bit `i` of a word. -/
def flag (w : Word) (i : Nat) : Bool := w.getLsbD i

/-- One bit as a field. -/
def bit (b : Bool) : BitVec 1 := BitVec.ofBool b

/-- The side a side bit selects (R111). -/
def Side.ofBit : Bool → Side
  | false => .a
  | true => .b

/-- The side bit of a side (R111). -/
def Side.toBit : Side → Bool
  | .a => false
  | .b => true

/-- The 3-bit `creg` code of a condition register (R160). -/
def CondReg.code : CondReg → BitVec 3
  | .b0 => 0b001
  | .b1 => 0b010
  | .b2 => 0b011
  | .a1 => 0b100
  | .a2 => 0b101
  | .a0 => 0b110

/-- `creg` and `z`, bits 31:28, of a condition (R111, R160). -/
def Cond.code : Cond → BitVec 4
  | .always => 0
  | .ifNonzero r => r.code ++ 0#1
  | .ifZero r => r.code ++ 1#1

/-- The condition that bits 31:28 of a word name (R160). -/
def condOf (c : BitVec 4) : Except DecodeError Cond :=
  match c.toNat with
  | 0 => .ok .always
  | 2 => .ok (.ifNonzero .b0)
  | 3 => .ok (.ifZero .b0)
  | 4 => .ok (.ifNonzero .b1)
  | 5 => .ok (.ifZero .b1)
  | 6 => .ok (.ifNonzero .b2)
  | 7 => .ok (.ifZero .b2)
  | 8 => .ok (.ifNonzero .a1)
  | 9 => .ok (.ifZero .a1)
  | 10 => .ok (.ifNonzero .a2)
  | 11 => .ok (.ifZero .a2)
  | 12 => .ok (.ifNonzero .a0)
  | 13 => .ok (.ifZero .a0)
  | _ => .error .reservedCondition

/-- The addressing mode that the mode field and the offset field stand for, by the table of R282 (log 10). -/
def modeOf (m : BitVec 4) (f : BitVec 5) : Except DecodeError AddrMode :=
  match m.toNat with
  | 0 => .ok ⟨.none, .cst f, false⟩
  | 1 => .ok ⟨.none, .cst f, true⟩
  | 4 => .ok ⟨.none, .reg f, false⟩
  | 5 => .ok ⟨.none, .reg f, true⟩
  | 8 => .ok ⟨.pre, .cst f, false⟩
  | 9 => .ok ⟨.pre, .cst f, true⟩
  | 10 => .ok ⟨.post, .cst f, false⟩
  | 11 => .ok ⟨.post, .cst f, true⟩
  | 12 => .ok ⟨.pre, .reg f, false⟩
  | 13 => .ok ⟨.pre, .reg f, true⟩
  | 14 => .ok ⟨.post, .reg f, false⟩
  | 15 => .ok ⟨.post, .reg f, true⟩
  | _ => .error .reservedMode

/-- The mode field of an addressing mode (R282). -/
def AddrMode.code : AddrMode → BitVec 4
  | ⟨.none, .cst _, false⟩ => 0
  | ⟨.none, .cst _, true⟩ => 1
  | ⟨.none, .reg _, false⟩ => 4
  | ⟨.none, .reg _, true⟩ => 5
  | ⟨.pre, .cst _, false⟩ => 8
  | ⟨.pre, .cst _, true⟩ => 9
  | ⟨.post, .cst _, false⟩ => 10
  | ⟨.post, .cst _, true⟩ => 11
  | ⟨.pre, .reg _, false⟩ => 12
  | ⟨.pre, .reg _, true⟩ => 13
  | ⟨.post, .reg _, false⟩ => 14
  | ⟨.post, .reg _, true⟩ => 15

/-- The offset field, bits 17:13, of an offset (R118). -/
def Offset.field : Offset → BitVec 5
  | .cst c => c
  | .reg r => r

/-! ### The operand fields of a word, one reader per form -/

/-- The fields of a three-operand word with an x bit. -/
def xForm (w : Word) (c : Cond) : XForm :=
  ⟨c, .ofBit (flag w 1), flag w 0, field w 23 5, field w 18 5, field w 13 5, flag w 12⟩

/-- The fields of a word with a constant and an x bit. -/
def xCstForm (w : Word) (c : Cond) : XCstForm :=
  ⟨c, .ofBit (flag w 1), flag w 0, field w 23 5, field w 18 5, field w 13 5, flag w 12⟩

/-- The fields of a word with a constant and no x bit. -/
def cForm (w : Word) (c : Cond) : CForm :=
  ⟨c, .ofBit (flag w 1), flag w 0, field w 23 5, field w 18 5, field w 13 5⟩

/-- The fields of a three-operand word without x bit. -/
def rForm (w : Word) (c : Cond) : RForm :=
  ⟨c, .ofBit (flag w 1), flag w 0, field w 23 5, field w 18 5, field w 13 5⟩

/-- The fields of a unary word with an x bit. -/
def xUnForm (w : Word) (c : Cond) : XUnForm :=
  ⟨c, .ofBit (flag w 1), flag w 0, field w 23 5, field w 18 5, flag w 12⟩

/-- The fields of a unary word on a long. -/
def unForm (w : Word) (c : Cond) : UnForm :=
  ⟨c, .ofBit (flag w 1), flag w 0, field w 23 5, field w 18 5⟩

/-- The fields of a FIELD word (R122). -/
def fieldForm (w : Word) (c : Cond) : FieldForm :=
  ⟨c, .ofBit (flag w 1), flag w 0, field w 23 5, field w 18 5, field w 13 5, field w 8 5⟩

/-- The fields of an ADDK or MVK word (R121, R123). -/
def cst16Form (w : Word) (c : Cond) : Cst16Form :=
  ⟨c, .ofBit (flag w 1), flag w 0, field w 23 5, field w 7 16⟩

/-- The fields of an LS15 word (R119). -/
def mem15Form (w : Word) (c : Cond) : Mem15Form :=
  ⟨c, .ofBit (flag w 1), flag w 0, flag w 7, field w 23 5, field w 8 15⟩

/-- A word whose form has no x bit must have bit 12 zero (R113, R128). -/
def needX0 (w : Word) (i : Instr) : Except DecodeError Instr :=
  if flag w 12 then .error .reservedField else .ok i

/-- A unary word must have bits 17:13 zero (R128). -/
def needSrc0 (w : Word) (i : Instr) : Except DecodeError Instr :=
  if field w 13 5 = 0 then .ok i else .error .reservedField

/-- The unary long forms must have bits 17:13 and bit 12 zero (R113, R128). -/
def needSrcX0 (w : Word) (i : Instr) : Except DecodeError Instr :=
  if field w 12 6 = 0 then .ok i else .error .reservedField

/-! ### The formats -/

/-- Format L: the op values of R179. -/
def decodeL (w : Word) (c : Cond) : Except DecodeError Instr :=
  match (field w 5 7).toNat with
  | 0b0000010 => .ok (.addLCst (xCstForm w c))
  | 0b0000011 => .ok (.addLReg (xForm w c))
  | 0b0000110 => .ok (.subLCst (xCstForm w c))
  | 0b0000111 => .ok (.subLReg (xForm w c))
  | 0b0001110 => .ok (.ssubCst (xCstForm w c))
  | 0b0001111 => .ok (.ssubReg (xForm w c))
  | 0b0010010 => .ok (.saddCst (xCstForm w c))
  | 0b0010011 => .ok (.saddReg (xForm w c))
  | 0b0010111 => .ok (.subLRegX1 (xForm w c))
  | 0b0011010 => needSrc0 w (.absWord (xUnForm w c))
  | 0b0011111 => .ok (.ssubRegX1 (xForm w c))
  | 0b0100000 => needX0 w (.addLCstLong (cForm w c))
  | 0b0100001 => .ok (.addLRegLong (xForm w c))
  | 0b0100011 => .ok (.addLWide (xForm w c))
  | 0b0100100 => needX0 w (.subLCstLong (cForm w c))
  | 0b0100111 => .ok (.subLWide (xForm w c))
  | 0b0101001 => .ok (.adduRegLong (xForm w c))
  | 0b0101011 => .ok (.adduWide (xForm w c))
  | 0b0101100 => needX0 w (.ssubCstLong (cForm w c))
  | 0b0101111 => .ok (.subuWide (xForm w c))
  | 0b0110000 => needX0 w (.saddCstLong (cForm w c))
  | 0b0110001 => .ok (.saddRegLong (xForm w c))
  | 0b0110111 => .ok (.subLWideX1 (xForm w c))
  | 0b0111000 => needSrcX0 w (.absLong (unForm w c))
  | 0b0111111 => .ok (.subuWideX1 (xForm w c))
  | 0b1000000 => needSrcX0 w (.sat (unForm w c))
  | 0b1000100 => needX0 w (.cmpgtCstLong (cForm w c))
  | 0b1000101 => .ok (.cmpgtRegLong (xForm w c))
  | 0b1000110 => .ok (.cmpgtCst (xCstForm w c))
  | 0b1000111 => .ok (.cmpgtReg (xForm w c))
  | 0b1001011 => .ok (.subc (xForm w c))
  | 0b1001100 => needX0 w (.cmpgtuCstLong (cForm w c))
  | 0b1001101 => .ok (.cmpgtuRegLong (xForm w c))
  | 0b1001110 => .ok (.cmpgtuCst (xCstForm w c))
  | 0b1001111 => .ok (.cmpgtuReg (xForm w c))
  | 0b1010000 => needX0 w (.cmpeqCstLong (cForm w c))
  | 0b1010001 => .ok (.cmpeqRegLong (xForm w c))
  | 0b1010010 => .ok (.cmpeqCst (xCstForm w c))
  | 0b1010011 => .ok (.cmpeqReg (xForm w c))
  | 0b1010100 => needX0 w (.cmpltCstLong (cForm w c))
  | 0b1010101 => .ok (.cmpltRegLong (xForm w c))
  | 0b1010110 => .ok (.cmpltCst (xCstForm w c))
  | 0b1010111 => .ok (.cmpltReg (xForm w c))
  | 0b1011100 => needX0 w (.cmpltuCstLong (cForm w c))
  | 0b1011101 => .ok (.cmpltuRegLong (xForm w c))
  | 0b1011110 => .ok (.cmpltuCst (xCstForm w c))
  | 0b1011111 => .ok (.cmpltuReg (xForm w c))
  | 0b1100000 => needSrcX0 w (.normLong (unForm w c))
  | 0b1100011 => needSrc0 w (.normWord (xUnForm w c))
  | 0b1101010 => .ok (.lmbdCst (xCstForm w c))
  | 0b1101011 => .ok (.lmbdReg (xForm w c))
  | 0b1101110 => .ok (.xorLCst (xCstForm w c))
  | 0b1101111 => .ok (.xorLReg (xForm w c))
  | 0b1111010 => .ok (.andLCst (xCstForm w c))
  | 0b1111011 => .ok (.andLReg (xForm w c))
  | 0b1111110 => .ok (.orLCst (xCstForm w c))
  | 0b1111111 => .ok (.orLReg (xForm w c))
  | _ => .error .reservedOpcode

/-- Format M: the op values of R250. -/
def decodeM (w : Word) (c : Cond) : Except DecodeError Instr :=
  match (field w 7 5).toNat with
  | 0b00001 => .ok (.mpyh (xForm w c))
  | 0b00010 => .ok (.smpyh (xForm w c))
  | 0b00011 => .ok (.mpyhsu (xForm w c))
  | 0b00101 => .ok (.mpyhus (xForm w c))
  | 0b00111 => .ok (.mpyhu (xForm w c))
  | 0b01001 => .ok (.mpyhl (xForm w c))
  | 0b01010 => .ok (.smpyhl (xForm w c))
  | 0b01011 => .ok (.mpyhslu (xForm w c))
  | 0b01101 => .ok (.mpyhuls (xForm w c))
  | 0b01111 => .ok (.mpyhlu (xForm w c))
  | 0b10001 => .ok (.mpylh (xForm w c))
  | 0b10010 => .ok (.smpylh (xForm w c))
  | 0b10011 => .ok (.mpylshu (xForm w c))
  | 0b10101 => .ok (.mpyluhs (xForm w c))
  | 0b10111 => .ok (.mpylhu (xForm w c))
  | 0b11000 => .ok (.mpyCst (xCstForm w c))
  | 0b11001 => .ok (.mpyReg (xForm w c))
  | 0b11010 => .ok (.smpy (xForm w c))
  | 0b11011 => .ok (.mpysuReg (xForm w c))
  | 0b11101 => .ok (.mpyus (xForm w c))
  | 0b11110 => .ok (.mpysuCst (xCstForm w c))
  | 0b11111 => .ok (.mpyu (xForm w c))
  | _ => .error .reservedOpcode

/-- Format D: the op values of R281. -/
def decodeD (w : Word) (c : Cond) : Except DecodeError Instr :=
  match (field w 7 6).toNat with
  | 0b010000 => .ok (.addDReg (rForm w c))
  | 0b010001 => .ok (.subDReg (rForm w c))
  | 0b010010 => .ok (.addDCst (cForm w c))
  | 0b010011 => .ok (.subDCst (cForm w c))
  | 0b110000 => .ok (.addabReg (rForm w c))
  | 0b110001 => .ok (.subabReg (rForm w c))
  | 0b110010 => .ok (.addabCst (cForm w c))
  | 0b110011 => .ok (.subabCst (cForm w c))
  | 0b110100 => .ok (.addahReg (rForm w c))
  | 0b110101 => .ok (.subahReg (rForm w c))
  | 0b110110 => .ok (.addahCst (cForm w c))
  | 0b110111 => .ok (.subahCst (cForm w c))
  | 0b111000 => .ok (.addawReg (rForm w c))
  | 0b111001 => .ok (.subawReg (rForm w c))
  | 0b111010 => .ok (.addawCst (cForm w c))
  | 0b111011 => .ok (.subawCst (cForm w c))
  | _ => .error .reservedOpcode

/-- B IRP and B NRP: the src2 field selects (R216, R217). -/
def decodeReturn (w : Word) (c : Cond) : Except DecodeError Instr :=
  if flag w 1 = false then .error .reservedField
  else if field w 23 5 = 0 ∧ field w 12 6 = 0 then
    match (field w 18 5).toNat with
    | 0b00110 => .ok (.bIrp ⟨c, flag w 0⟩)
    | 0b00111 => .ok (.bNrp ⟨c, flag w 0⟩)
    | _ => .error .reservedField
  else .error .reservedField

/-- B to a register: .S2 only, dst and src1 zero (R215). -/
def decodeBReg (w : Word) (c : Cond) : Except DecodeError Instr :=
  if flag w 1 = true ∧ field w 23 5 = 0 ∧ field w 13 5 = 0
  then .ok (.bReg ⟨c, flag w 0, field w 18 5, flag w 12⟩) else .error .reservedField

/-- MVC to a control register: .S2 only, src1 zero (R226). -/
def decodeMvcWrite (w : Word) (c : Cond) : Except DecodeError Instr :=
  if flag w 1 = true ∧ field w 13 5 = 0
  then .ok (.mvcWrite ⟨c, flag w 0, field w 23 5, field w 18 5, flag w 12⟩) else .error .reservedField

/-- MVC from a control register: .S2 only, src1 and x zero (R226). -/
def decodeMvcRead (w : Word) (c : Cond) : Except DecodeError Instr :=
  if flag w 1 = true ∧ field w 12 6 = 0
  then .ok (.mvcRead ⟨c, flag w 0, field w 23 5, field w 18 5⟩) else .error .reservedField

/-- Format S: the op values of R209. -/
def decodeS (w : Word) (c : Cond) : Except DecodeError Instr :=
  match (field w 6 6).toNat with
  | 0b000011 => decodeReturn w c
  | 0b001101 => decodeBReg w c
  | 0b001110 => decodeMvcWrite w c
  | 0b001111 => decodeMvcRead w c
  | 0b000001 => .ok (.add2 (xForm w c))
  | 0b000110 => .ok (.addSCst (xCstForm w c))
  | 0b000111 => .ok (.addSReg (xForm w c))
  | 0b001010 => .ok (.xorSCst (xCstForm w c))
  | 0b001011 => .ok (.xorSReg (xForm w c))
  | 0b010001 => .ok (.sub2 (xForm w c))
  | 0b010010 => .ok (.shlCstWide (xCstForm w c))
  | 0b010011 => .ok (.shlRegWide (xForm w c))
  | 0b010110 => .ok (.subSCst (xCstForm w c))
  | 0b010111 => .ok (.subSReg (xForm w c))
  | 0b011010 => .ok (.orSCst (xCstForm w c))
  | 0b011011 => .ok (.orSReg (xForm w c))
  | 0b011110 => .ok (.andSCst (xCstForm w c))
  | 0b011111 => .ok (.andSReg (xForm w c))
  | 0b100010 => .ok (.sshlCst (xCstForm w c))
  | 0b100011 => .ok (.sshlReg (xForm w c))
  | 0b100100 => needX0 w (.shruCstLong (cForm w c))
  | 0b100101 => needX0 w (.shruRegLong (rForm w c))
  | 0b100110 => .ok (.shruCst (xCstForm w c))
  | 0b100111 => .ok (.shruReg (xForm w c))
  | 0b101011 => .ok (.extuReg (xForm w c))
  | 0b101111 => .ok (.extReg (xForm w c))
  | 0b110000 => needX0 w (.shlCstLong (cForm w c))
  | 0b110001 => needX0 w (.shlRegLong (rForm w c))
  | 0b110010 => .ok (.shlCst (xCstForm w c))
  | 0b110011 => .ok (.shlReg (xForm w c))
  | 0b110100 => needX0 w (.shrCstLong (cForm w c))
  | 0b110101 => needX0 w (.shrRegLong (rForm w c))
  | 0b110110 => .ok (.shrCst (xCstForm w c))
  | 0b110111 => .ok (.shrReg (xForm w c))
  | 0b111011 => .ok (.setReg (xForm w c))
  | 0b111111 => .ok (.clrReg (xForm w c))
  | _ => .error .reservedOpcode

/-- Format FIELD: the op values of R122. -/
def decodeField (w : Word) (c : Cond) : Except DecodeError Instr :=
  match (field w 6 2).toNat with
  | 0b00 => .ok (.extuCst (fieldForm w c))
  | 0b01 => .ok (.extCst (fieldForm w c))
  | 0b10 => .ok (.setCst (fieldForm w c))
  | _ => .ok (.clrCst (fieldForm w c))

/-- The load or store that `r` and `ld/st` select (R289). -/
def memInstr (r : Bool) (op : BitVec 3) (o : MemForm) : Except DecodeError Instr :=
  match r, op.toNat with
  | false, 0b000 => .ok (.ldhu o)
  | false, 0b001 => .ok (.ldbu o)
  | false, 0b010 => .ok (.ldb o)
  | false, 0b011 => .ok (.stb o)
  | false, 0b100 => .ok (.ldh o)
  | false, 0b101 => .ok (.sth o)
  | false, 0b110 => .ok (.ldw o)
  | false, _ => .ok (.stw o)
  | true, 0b110 => .ok (.lddw o)
  | true, _ => .error .reservedOpcode

/-- Format LSR (R118, R282, R289). -/
def decodeLsr (w : Word) (c : Cond) : Except DecodeError Instr :=
  match modeOf (field w 9 4) (field w 13 5) with
  | .ok m => memInstr (flag w 8) (field w 4 3)
      ⟨c, .ofBit (flag w 1), flag w 0, .ofBit (flag w 7), field w 23 5, field w 18 5, m⟩
  | .error e => .error e

/-- Format LS15 (R119, R289). -/
def decodeLs15 (w : Word) (c : Cond) : Except DecodeError Instr :=
  match (field w 4 3).toNat with
  | 0b000 => .ok (.ldhu15 (mem15Form w c))
  | 0b001 => .ok (.ldbu15 (mem15Form w c))
  | 0b010 => .ok (.ldb15 (mem15Form w c))
  | 0b011 => .ok (.stb15 (mem15Form w c))
  | 0b100 => .ok (.ldh15 (mem15Form w c))
  | 0b101 => .ok (.sth15 (mem15Form w c))
  | 0b110 => .ok (.ldw15 (mem15Form w c))
  | _ => .ok (.stw15 (mem15Form w c))

/-- Formats NOP and IDLE: the words with bits 12:2 zero (R125). -/
def decodeNop (w : Word) : Except DecodeError Instr :=
  if field w 17 15 ≠ 0 then .error .reservedField
  else
    match (field w 13 4).toNat with
    | 15 => .ok (.idle ⟨flag w 1, flag w 0⟩)
    | 8 => if flag w 1 then .error .reservedField else .ok (.nop9 ⟨flag w 0⟩)
    | n => if flag w 1 = true ∨ 8 ≤ n then .error .reservedField else .ok (.nop ⟨field w 13 3, flag w 0⟩)

/-- The decoding tree of R114, on bits 6:2. -/
def decodeFormat (w : Word) (c : Cond) : Except DecodeError Instr :=
  match (field w 2 2).toNat with
  | 0b01 => decodeLsr w c
  | 0b11 => decodeLs15 w c
  | 0b10 =>
    match (field w 4 2).toNat with
    | 0b00 => decodeField w c
    | 0b10 => if flag w 6 then .ok (.mvkh (cst16Form w c)) else .ok (.mvk (cst16Form w c))
    | _ => decodeL w c
  | _ =>
    match (field w 4 3).toNat with
    | 0b000 => decodeM w c
    | 0b001 => .ok (.bDisp ⟨c, .ofBit (flag w 1), flag w 0, field w 7 21⟩)
    | 0b010 => decodeS w c
    | 0b110 => decodeS w c
    | 0b100 => decodeD w c
    | 0b101 => .ok (.addk (cst16Form w c))
    | _ => .error .reservedFormat

/-- The instruction a word stands for (R110, R114, R125). -/
def decode (w : Word) : Except DecodeError Instr :=
  if field w 2 11 = 0 then decodeNop w
  else
    match condOf (field w 28 4) with
    | .ok c => decodeFormat w c
    | .error e => .error e

/-! ### Words as bytes -/

/-- The word that four bytes hold, lowest address first (R84). -/
def wordOfBytes (e : Endian) (b0 b1 b2 b3 : Byte) : Word :=
  match e with
  | .little => b3 ++ b2 ++ b1 ++ b0
  | .big => b0 ++ b1 ++ b2 ++ b3

/-- Byte `i` of a word as the hardware stores it at offset `i` (R84; log 17). -/
def byteOfWord (e : Endian) (w : Word) (i : Nat) : Byte :=
  match e with
  | .little => w.extractLsb' (8 * i) 8
  | .big => w.extractLsb' (8 * (3 - i)) 8

/-- The decoder's answer on an instruction whose first `nbits` bits are `w`, the others 0, laid out as bytes. -/
def decodeTableWord (nbits w : Nat) : Option Instr :=
  let v : Word := BitVec.ofNat 32 (w % 2 ^ nbits)
  let b := byteOfWord .little v
  match decode (wordOfBytes .little (b 0) (b 1) (b 2) (b 3)) with
  | .ok i => some i
  | .error _ => none

/-! ### The encoder -/

/-- Formats L, M and S are one layout: bits 31:12 as below, then the ten bits 11:2 that name the instruction. -/
def word3 (c : Cond) (d s2 s1 : BitVec 5) (x : Bool) (op : BitVec 10) (s : Side) (p : Bool) : Word :=
  c.code ++ d ++ s2 ++ s1 ++ bit x ++ op ++ bit s.toBit ++ bit p

/-- A three-operand word. -/
def XForm.word (o : XForm) (op : BitVec 10) : Word := word3 o.cond o.dst o.src2 o.src1 o.x op o.side o.p
/-- A word with a constant. -/
def XCstForm.word (o : XCstForm) (op : BitVec 10) : Word := word3 o.cond o.dst o.src2 o.cst o.x op o.side o.p
/-- A word with a constant; `x` is bit 12, which belongs to the op in format D. -/
def CForm.word (o : CForm) (x : Bool) (op : BitVec 10) : Word := word3 o.cond o.dst o.src2 o.cst x op o.side o.p
/-- A three-operand word; `x` is bit 12, which belongs to the op in format D. -/
def RForm.word (o : RForm) (x : Bool) (op : BitVec 10) : Word := word3 o.cond o.dst o.src2 o.src1 x op o.side o.p
/-- A unary word. -/
def XUnForm.word (o : XUnForm) (op : BitVec 10) : Word := word3 o.cond o.dst o.src2 0 o.x op o.side o.p
/-- A unary word on a long. -/
def UnForm.word (o : UnForm) (op : BitVec 10) : Word := word3 o.cond o.dst o.src2 0 false op o.side o.p
/-- Format FIELD (R122). -/
def FieldForm.word (o : FieldForm) (op : BitVec 2) : Word :=
  o.cond.code ++ o.dst ++ o.src2 ++ o.csta ++ o.cstb ++ op ++ 0b0010#4 ++ bit o.side.toBit ++ bit o.p
/-- Formats ADDK and MVK (R121, R123): `low` is bits 6:2. -/
def Cst16Form.word (o : Cst16Form) (low : BitVec 5) : Word :=
  o.cond.code ++ o.dst ++ o.cst ++ low ++ bit o.side.toBit ++ bit o.p
/-- Format LSR (R118). -/
def MemForm.word (o : MemForm) (r : Bool) (op : BitVec 3) : Word :=
  o.cond.code ++ o.data ++ o.base ++ o.mode.offset.field ++ o.mode.code ++ bit r ++ bit o.y.toBit ++ op ++ 0b01#2 ++
    bit o.side.toBit ++ bit o.p
/-- Format LS15 (R119). -/
def Mem15Form.word (o : Mem15Form) (op : BitVec 3) : Word :=
  o.cond.code ++ o.data ++ o.off ++ bit o.y ++ op ++ 0b11#2 ++ bit o.side.toBit ++ bit o.p

/-- The word of an instruction (R115-R125 and the op tables). -/
def encode : Instr → Word
  | .addLCst o => o.word 0b0000010110
  | .addLReg o => o.word 0b0000011110
  | .subLCst o => o.word 0b0000110110
  | .subLReg o => o.word 0b0000111110
  | .ssubCst o => o.word 0b0001110110
  | .ssubReg o => o.word 0b0001111110
  | .saddCst o => o.word 0b0010010110
  | .saddReg o => o.word 0b0010011110
  | .subLRegX1 o => o.word 0b0010111110
  | .absWord o => o.word 0b0011010110
  | .ssubRegX1 o => o.word 0b0011111110
  | .addLCstLong o => o.word false 0b0100000110
  | .addLRegLong o => o.word 0b0100001110
  | .addLWide o => o.word 0b0100011110
  | .subLCstLong o => o.word false 0b0100100110
  | .subLWide o => o.word 0b0100111110
  | .adduRegLong o => o.word 0b0101001110
  | .adduWide o => o.word 0b0101011110
  | .ssubCstLong o => o.word false 0b0101100110
  | .subuWide o => o.word 0b0101111110
  | .saddCstLong o => o.word false 0b0110000110
  | .saddRegLong o => o.word 0b0110001110
  | .subLWideX1 o => o.word 0b0110111110
  | .absLong o => o.word 0b0111000110
  | .subuWideX1 o => o.word 0b0111111110
  | .sat o => o.word 0b1000000110
  | .cmpgtCstLong o => o.word false 0b1000100110
  | .cmpgtRegLong o => o.word 0b1000101110
  | .cmpgtCst o => o.word 0b1000110110
  | .cmpgtReg o => o.word 0b1000111110
  | .subc o => o.word 0b1001011110
  | .cmpgtuCstLong o => o.word false 0b1001100110
  | .cmpgtuRegLong o => o.word 0b1001101110
  | .cmpgtuCst o => o.word 0b1001110110
  | .cmpgtuReg o => o.word 0b1001111110
  | .cmpeqCstLong o => o.word false 0b1010000110
  | .cmpeqRegLong o => o.word 0b1010001110
  | .cmpeqCst o => o.word 0b1010010110
  | .cmpeqReg o => o.word 0b1010011110
  | .cmpltCstLong o => o.word false 0b1010100110
  | .cmpltRegLong o => o.word 0b1010101110
  | .cmpltCst o => o.word 0b1010110110
  | .cmpltReg o => o.word 0b1010111110
  | .cmpltuCstLong o => o.word false 0b1011100110
  | .cmpltuRegLong o => o.word 0b1011101110
  | .cmpltuCst o => o.word 0b1011110110
  | .cmpltuReg o => o.word 0b1011111110
  | .normLong o => o.word 0b1100000110
  | .normWord o => o.word 0b1100011110
  | .lmbdCst o => o.word 0b1101010110
  | .lmbdReg o => o.word 0b1101011110
  | .xorLCst o => o.word 0b1101110110
  | .xorLReg o => o.word 0b1101111110
  | .andLCst o => o.word 0b1111010110
  | .andLReg o => o.word 0b1111011110
  | .orLCst o => o.word 0b1111110110
  | .orLReg o => o.word 0b1111111110
  | .add2 o => o.word 0b0000011000
  | .addSCst o => o.word 0b0001101000
  | .addSReg o => o.word 0b0001111000
  | .xorSCst o => o.word 0b0010101000
  | .xorSReg o => o.word 0b0010111000
  | .sub2 o => o.word 0b0100011000
  | .shlCstWide o => o.word 0b0100101000
  | .shlRegWide o => o.word 0b0100111000
  | .subSCst o => o.word 0b0101101000
  | .subSReg o => o.word 0b0101111000
  | .orSCst o => o.word 0b0110101000
  | .orSReg o => o.word 0b0110111000
  | .andSCst o => o.word 0b0111101000
  | .andSReg o => o.word 0b0111111000
  | .sshlCst o => o.word 0b1000101000
  | .sshlReg o => o.word 0b1000111000
  | .shruCstLong o => o.word false 0b1001001000
  | .shruRegLong o => o.word false 0b1001011000
  | .shruCst o => o.word 0b1001101000
  | .shruReg o => o.word 0b1001111000
  | .extuReg o => o.word 0b1010111000
  | .extReg o => o.word 0b1011111000
  | .shlCstLong o => o.word false 0b1100001000
  | .shlRegLong o => o.word false 0b1100011000
  | .shlCst o => o.word 0b1100101000
  | .shlReg o => o.word 0b1100111000
  | .shrCstLong o => o.word false 0b1101001000
  | .shrRegLong o => o.word false 0b1101011000
  | .shrCst o => o.word 0b1101101000
  | .shrReg o => o.word 0b1101111000
  | .setReg o => o.word 0b1110111000
  | .clrReg o => o.word 0b1111111000
  | .mpyh o => o.word 0b0000100000
  | .smpyh o => o.word 0b0001000000
  | .mpyhsu o => o.word 0b0001100000
  | .mpyhus o => o.word 0b0010100000
  | .mpyhu o => o.word 0b0011100000
  | .mpyhl o => o.word 0b0100100000
  | .smpyhl o => o.word 0b0101000000
  | .mpyhslu o => o.word 0b0101100000
  | .mpyhuls o => o.word 0b0110100000
  | .mpyhlu o => o.word 0b0111100000
  | .mpylh o => o.word 0b1000100000
  | .smpylh o => o.word 0b1001000000
  | .mpylshu o => o.word 0b1001100000
  | .mpyluhs o => o.word 0b1010100000
  | .mpylhu o => o.word 0b1011100000
  | .mpyCst o => o.word 0b1100000000
  | .mpyReg o => o.word 0b1100100000
  | .smpy o => o.word 0b1101000000
  | .mpysuReg o => o.word 0b1101100000
  | .mpyus o => o.word 0b1110100000
  | .mpysuCst o => o.word 0b1111000000
  | .mpyu o => o.word 0b1111100000
  | .bReg o => word3 o.cond 0 o.src2 0 o.x 0b0011011000 .b o.p
  | .bIrp o => word3 o.cond 0 0b00110 0 false 0b0000111000 .b o.p
  | .bNrp o => word3 o.cond 0 0b00111 0 false 0b0000111000 .b o.p
  | .mvcRead o => word3 o.cond o.dst o.cr 0 false 0b0011111000 .b o.p
  | .mvcWrite o => word3 o.cond o.cr o.src2 0 o.x 0b0011101000 .b o.p
  | .addk o => o.word 0b10100
  | .extuCst o => o.word 0b00
  | .extCst o => o.word 0b01
  | .setCst o => o.word 0b10
  | .clrCst o => o.word 0b11
  | .mvk o => o.word 0b01010
  | .mvkh o => o.word 0b11010
  | .bDisp o => o.cond.code ++ o.cst ++ 0b00100#5 ++ bit o.side.toBit ++ bit o.p
  | .addDReg o => o.word false 0b1000010000
  | .subDReg o => o.word false 0b1000110000
  | .addDCst o => o.word false 0b1001010000
  | .subDCst o => o.word false 0b1001110000
  | .addabReg o => o.word true 0b1000010000
  | .subabReg o => o.word true 0b1000110000
  | .addabCst o => o.word true 0b1001010000
  | .subabCst o => o.word true 0b1001110000
  | .addahReg o => o.word true 0b1010010000
  | .subahReg o => o.word true 0b1010110000
  | .addahCst o => o.word true 0b1011010000
  | .subahCst o => o.word true 0b1011110000
  | .addawReg o => o.word true 0b1100010000
  | .subawReg o => o.word true 0b1100110000
  | .addawCst o => o.word true 0b1101010000
  | .subawCst o => o.word true 0b1101110000
  | .ldhu o => o.word false 0b000
  | .ldhu15 o => o.word 0b000
  | .ldbu o => o.word false 0b001
  | .ldbu15 o => o.word 0b001
  | .ldb o => o.word false 0b010
  | .ldb15 o => o.word 0b010
  | .stb o => o.word false 0b011
  | .stb15 o => o.word 0b011
  | .ldh o => o.word false 0b100
  | .ldh15 o => o.word 0b100
  | .sth o => o.word false 0b101
  | .sth15 o => o.word 0b101
  | .ldw o => o.word false 0b110
  | .ldw15 o => o.word 0b110
  | .stw o => o.word false 0b111
  | .stw15 o => o.word 0b111
  | .lddw o => o.word true 0b110
  | .nop o => 0#16 ++ o.src ++ 0#12 ++ bit o.p
  | .nop9 o => 1#16 ++ 0#15 ++ bit o.p
  | .idle o => 0#14 ++ 0b01111#5 ++ 0#11 ++ bit o.s ++ bit o.p

end Sys2Proof
end

