-- ==== Sys2Proof/Machine/Forms.lean ====
section
/-! DEFINITION. What an instruction asks of the machine, read off its syntax: its condition, its functional unit, its
cross path, the registers it reads and writes (spec/40_packets_and_conditions.md R160, R162; spec/10_state.md R26, R27). The
legality checks and the resource check are stated over this one description. -/
namespace Sys2Proof

/-- The other register file (R113). -/
def Side.other : Side → Side
  | .a => .b
  | .b => .a

/-- The file a cross-capable operand is read from: the other one when `x` is set (R113). -/
def Side.via (s : Side) (x : Bool) : Side := if x then s.other else s

/-- The four kinds of functional unit (R26). -/
inductive UnitKind where
  | l
  | s
  | m
  | d
deriving DecidableEq, Repr

/-- How many registers an operand takes: one, or the pair of a long (R24) or of a double word (R298). -/
inductive Size where
  | word
  | long
  | dword
deriving DecidableEq, Repr

/-- One register operand: its file, its number and its size. -/
structure RegUse where
  side : Side
  num : RegNum
  size : Size
deriving DecidableEq, Repr

/-- The data register of a load or store: its file, and whether it is stored (R118). -/
structure DataPath where
  side : Side
  store : Bool
deriving DecidableEq, Repr

/-- What an instruction asks of the machine (R160, R162). `cross` is the side of the unit whose cross path it uses. -/
structure Demand where
  cond : Cond
  unit : Option (UnitKind × Side)
  cross : Option Side
  reads : List RegUse
  writes : List RegUse
  data : Option DataPath
  branch : Bool
deriving DecidableEq, Repr

/-- The registers an operand takes: its own, and the next odd one of a pair (R23). -/
def RegUse.regs (u : RegUse) : List (Side × RegNum) :=
  match u.size with
  | .word => [(u.side, u.num)]
  | _ => [(u.side, u.num), (u.side, u.num + 1)]

/-- The register a condition tests, as file and number (R160). -/
def CondReg.reg : CondReg → Side × RegNum
  | .b0 => (.b, 0)
  | .b1 => (.b, 1)
  | .b2 => (.b, 2)
  | .a1 => (.a, 1)
  | .a2 => (.a, 2)
  | .a0 => (.a, 0)

/-- The unit's side when the cross path is used. -/
def crossUse (s : Side) (x : Bool) : Option Side := if x then some s else none

/-- Forms with the cross-capable operand in src2. -/
def XForm.demand (o : XForm) (u : UnitKind) (d : Size) : Demand :=
  { cond := o.cond, unit := some (u, o.side), cross := crossUse o.side o.x
    reads := [⟨o.side, o.src1, .word⟩, ⟨o.side.via o.x, o.src2, .word⟩]
    writes := [⟨o.side, o.dst, d⟩], data := none, branch := false }

/-- Forms of the .L unit with the cross-capable operand in src1; `b` is the size of src2 (R178). -/
def XForm.demandX1 (o : XForm) (b d : Size) : Demand :=
  { cond := o.cond, unit := some (.l, o.side), cross := crossUse o.side o.x
    reads := [⟨o.side.via o.x, o.src1, .word⟩, ⟨o.side, o.src2, b⟩]
    writes := [⟨o.side, o.dst, d⟩], data := none, branch := false }

/-- Forms with a constant and a cross-capable src2. -/
def XCstForm.demand (o : XCstForm) (u : UnitKind) (d : Size) : Demand :=
  { cond := o.cond, unit := some (u, o.side), cross := crossUse o.side o.x
    reads := [⟨o.side.via o.x, o.src2, .word⟩]
    writes := [⟨o.side, o.dst, d⟩], data := none, branch := false }

/-- Forms with a constant and no cross path; `b` and `d` are the sizes of src2 and dst. -/
def CForm.demand (o : CForm) (u : UnitKind) (b d : Size) : Demand :=
  { cond := o.cond, unit := some (u, o.side), cross := none
    reads := [⟨o.side, o.src2, b⟩]
    writes := [⟨o.side, o.dst, d⟩], data := none, branch := false }

/-- Forms with two registers and no cross path; `b` and `d` are the sizes of src2 and dst. -/
def RForm.demand (o : RForm) (u : UnitKind) (b d : Size) : Demand :=
  { cond := o.cond, unit := some (u, o.side), cross := none
    reads := [⟨o.side, o.src1, .word⟩, ⟨o.side, o.src2, b⟩]
    writes := [⟨o.side, o.dst, d⟩], data := none, branch := false }

/-- Unary forms with a cross-capable operand. -/
def XUnForm.demand (o : XUnForm) : Demand :=
  { cond := o.cond, unit := some (.l, o.side), cross := crossUse o.side o.x
    reads := [⟨o.side.via o.x, o.src2, .word⟩]
    writes := [⟨o.side, o.dst, .word⟩], data := none, branch := false }

/-- Unary forms on a long; `d` is the size of dst. -/
def UnForm.demand (o : UnForm) (d : Size) : Demand :=
  { cond := o.cond, unit := some (.l, o.side), cross := none
    reads := [⟨o.side, o.src2, .long⟩]
    writes := [⟨o.side, o.dst, d⟩], data := none, branch := false }

/-- Format FIELD. -/
def FieldForm.demand (o : FieldForm) : Demand :=
  { cond := o.cond, unit := some (.s, o.side), cross := none
    reads := [⟨o.side, o.src2, .word⟩]
    writes := [⟨o.side, o.dst, .word⟩], data := none, branch := false }

/-- MVK reads no register; ADDK and MVKH read their destination (R211, R224, R225). -/
def Cst16Form.demand (o : Cst16Form) (readsDst : Bool) : Demand :=
  { cond := o.cond, unit := some (.s, o.side), cross := none
    reads := if readsDst then [⟨o.side, o.dst, .word⟩] else []
    writes := [⟨o.side, o.dst, .word⟩], data := none, branch := false }

/-- A branch: its side and what it reads. -/
def branchDemand (c : Cond) (s : Side) (x : Option Side) (reads : List RegUse) : Demand :=
  { cond := c, unit := some (.s, s), cross := x, reads := reads, writes := [], data := none, branch := true }

/-- The offset register of an addressing mode, if it has one (R282). -/
def Offset.reads (y : Side) : Offset → List RegUse
  | .cst _ => []
  | .reg r => [⟨y, r, .word⟩]

/-- The base register when the mode changes it (R282). -/
def AddrMode.writes (m : AddrMode) (y : Side) (base : RegNum) : List RegUse :=
  match m.update with
  | .none => []
  | _ => [⟨y, base, .word⟩]

/-- A load: base and offset on side `y`, data on side `side`; `d` is the size of the data (R118, R288). -/
def MemForm.loadDemand (o : MemForm) (d : Size) : Demand :=
  { cond := o.cond, unit := some (.d, o.y), cross := none
    reads := ⟨o.y, o.base, .word⟩ :: o.mode.offset.reads o.y
    writes := o.mode.writes o.y o.base ++ [⟨o.side, o.data, d⟩]
    data := some ⟨o.side, false⟩, branch := false }

/-- A store: base and offset on side `y`, data on side `side` (R118, R288). -/
def MemForm.storeDemand (o : MemForm) : Demand :=
  { cond := o.cond, unit := some (.d, o.y), cross := none
    reads := ⟨o.side, o.data, .word⟩ :: ⟨o.y, o.base, .word⟩ :: o.mode.offset.reads o.y
    writes := o.mode.writes o.y o.base
    data := some ⟨o.side, true⟩, branch := false }

/-- The base register of format LS15: B14 or B15 (R119). -/
def Mem15Form.base (o : Mem15Form) : RegNum := if o.y then 15 else 14

/-- A load of format LS15, on .D2 (R119). -/
def Mem15Form.loadDemand (o : Mem15Form) : Demand :=
  { cond := o.cond, unit := some (.d, .b), cross := none
    reads := [⟨.b, o.base, .word⟩], writes := [⟨o.side, o.data, .word⟩]
    data := some ⟨o.side, false⟩, branch := false }

/-- A store of format LS15, on .D2 (R119). -/
def Mem15Form.storeDemand (o : Mem15Form) : Demand :=
  { cond := o.cond, unit := some (.d, .b), cross := none
    reads := [⟨o.side, o.data, .word⟩, ⟨.b, o.base, .word⟩], writes := []
    data := some ⟨o.side, true⟩, branch := false }

/-- NOP and IDLE use no unit, read and write nothing and have no condition (R162, R165, R166). -/
def noDemand : Demand :=
  { cond := .always, unit := none, cross := none, reads := [], writes := [], data := none, branch := false }

/-- What each instruction asks of the machine: the operand types of the tables R179, R209, R250, R281, R289. -/
def Instr.demand : Instr → Demand
  | .addLCst o => o.demand .l .word
  | .addLReg o => o.demand .l .word
  | .subLCst o => o.demand .l .word
  | .subLReg o => o.demand .l .word
  | .ssubCst o => o.demand .l .word
  | .ssubReg o => o.demand .l .word
  | .saddCst o => o.demand .l .word
  | .saddReg o => o.demand .l .word
  | .subLRegX1 o => o.demandX1 .word .word
  | .absWord o => o.demand
  | .ssubRegX1 o => o.demandX1 .word .word
  | .addLCstLong o => o.demand .l .long .long
  | .addLRegLong o => o.demandX1 .long .long
  | .addLWide o => o.demand .l .long
  | .subLCstLong o => o.demand .l .long .long
  | .subLWide o => o.demand .l .long
  | .adduRegLong o => o.demandX1 .long .long
  | .adduWide o => o.demand .l .long
  | .ssubCstLong o => o.demand .l .long .long
  | .subuWide o => o.demand .l .long
  | .saddCstLong o => o.demand .l .long .long
  | .saddRegLong o => o.demandX1 .long .long
  | .subLWideX1 o => o.demandX1 .word .long
  | .absLong o => o.demand .long
  | .subuWideX1 o => o.demandX1 .word .long
  | .sat o => o.demand .word
  | .cmpgtCstLong o => o.demand .l .long .word
  | .cmpgtRegLong o => o.demandX1 .long .word
  | .cmpgtCst o => o.demand .l .word
  | .cmpgtReg o => o.demand .l .word
  | .subc o => o.demand .l .word
  | .cmpgtuCstLong o => o.demand .l .long .word
  | .cmpgtuRegLong o => o.demandX1 .long .word
  | .cmpgtuCst o => o.demand .l .word
  | .cmpgtuReg o => o.demand .l .word
  | .cmpeqCstLong o => o.demand .l .long .word
  | .cmpeqRegLong o => o.demandX1 .long .word
  | .cmpeqCst o => o.demand .l .word
  | .cmpeqReg o => o.demand .l .word
  | .cmpltCstLong o => o.demand .l .long .word
  | .cmpltRegLong o => o.demandX1 .long .word
  | .cmpltCst o => o.demand .l .word
  | .cmpltReg o => o.demand .l .word
  | .cmpltuCstLong o => o.demand .l .long .word
  | .cmpltuRegLong o => o.demandX1 .long .word
  | .cmpltuCst o => o.demand .l .word
  | .cmpltuReg o => o.demand .l .word
  | .normLong o => o.demand .word
  | .normWord o => o.demand
  | .lmbdCst o => o.demand .l .word
  | .lmbdReg o => o.demand .l .word
  | .xorLCst o => o.demand .l .word
  | .xorLReg o => o.demand .l .word
  | .andLCst o => o.demand .l .word
  | .andLReg o => o.demand .l .word
  | .orLCst o => o.demand .l .word
  | .orLReg o => o.demand .l .word
  | .add2 o => o.demand .s .word
  | .addSCst o => o.demand .s .word
  | .addSReg o => o.demand .s .word
  | .xorSCst o => o.demand .s .word
  | .xorSReg o => o.demand .s .word
  | .sub2 o => o.demand .s .word
  | .shlCstWide o => o.demand .s .long
  | .shlRegWide o => o.demand .s .long
  | .subSCst o => o.demand .s .word
  | .subSReg o => o.demand .s .word
  | .orSCst o => o.demand .s .word
  | .orSReg o => o.demand .s .word
  | .andSCst o => o.demand .s .word
  | .andSReg o => o.demand .s .word
  | .sshlCst o => o.demand .s .word
  | .sshlReg o => o.demand .s .word
  | .shruCstLong o => o.demand .s .long .long
  | .shruRegLong o => o.demand .s .long .long
  | .shruCst o => o.demand .s .word
  | .shruReg o => o.demand .s .word
  | .extuReg o => o.demand .s .word
  | .extReg o => o.demand .s .word
  | .shlCstLong o => o.demand .s .long .long
  | .shlRegLong o => o.demand .s .long .long
  | .shlCst o => o.demand .s .word
  | .shlReg o => o.demand .s .word
  | .shrCstLong o => o.demand .s .long .long
  | .shrRegLong o => o.demand .s .long .long
  | .shrCst o => o.demand .s .word
  | .shrReg o => o.demand .s .word
  | .setReg o => o.demand .s .word
  | .clrReg o => o.demand .s .word
  | .mpyh o => o.demand .m .word
  | .smpyh o => o.demand .m .word
  | .mpyhsu o => o.demand .m .word
  | .mpyhus o => o.demand .m .word
  | .mpyhu o => o.demand .m .word
  | .mpyhl o => o.demand .m .word
  | .smpyhl o => o.demand .m .word
  | .mpyhslu o => o.demand .m .word
  | .mpyhuls o => o.demand .m .word
  | .mpyhlu o => o.demand .m .word
  | .mpylh o => o.demand .m .word
  | .smpylh o => o.demand .m .word
  | .mpylshu o => o.demand .m .word
  | .mpyluhs o => o.demand .m .word
  | .mpylhu o => o.demand .m .word
  | .mpyCst o => o.demand .m .word
  | .mpyReg o => o.demand .m .word
  | .smpy o => o.demand .m .word
  | .mpysuReg o => o.demand .m .word
  | .mpyus o => o.demand .m .word
  | .mpysuCst o => o.demand .m .word
  | .mpyu o => o.demand .m .word
  | .bReg o => branchDemand o.cond .b (crossUse .b o.x) [⟨Side.b.via o.x, o.src2, .word⟩]
  | .bIrp o => branchDemand o.cond .b none []
  | .bNrp o => branchDemand o.cond .b none []
  | .mvcRead o => { noDemand with cond := o.cond, unit := some (.s, .b), writes := [⟨.b, o.dst, .word⟩] }
  | .mvcWrite o => { noDemand with
      cond := o.cond, unit := some (.s, .b), cross := crossUse .b o.x, reads := [⟨Side.b.via o.x, o.src2, .word⟩] }
  | .addk o => o.demand true
  | .extuCst o => o.demand
  | .extCst o => o.demand
  | .setCst o => o.demand
  | .clrCst o => o.demand
  | .mvk o => o.demand false
  | .mvkh o => o.demand true
  | .bDisp o => branchDemand o.cond o.side none []
  | .addDReg o => o.demand .d .word .word
  | .subDReg o => o.demand .d .word .word
  | .addDCst o => o.demand .d .word .word
  | .subDCst o => o.demand .d .word .word
  | .addabReg o => o.demand .d .word .word
  | .subabReg o => o.demand .d .word .word
  | .addabCst o => o.demand .d .word .word
  | .subabCst o => o.demand .d .word .word
  | .addahReg o => o.demand .d .word .word
  | .subahReg o => o.demand .d .word .word
  | .addahCst o => o.demand .d .word .word
  | .subahCst o => o.demand .d .word .word
  | .addawReg o => o.demand .d .word .word
  | .subawReg o => o.demand .d .word .word
  | .addawCst o => o.demand .d .word .word
  | .subawCst o => o.demand .d .word .word
  | .ldhu o => o.loadDemand .word
  | .ldhu15 o => o.loadDemand
  | .ldbu o => o.loadDemand .word
  | .ldbu15 o => o.loadDemand
  | .ldb o => o.loadDemand .word
  | .ldb15 o => o.loadDemand
  | .stb o => o.storeDemand
  | .stb15 o => o.storeDemand
  | .ldh o => o.loadDemand .word
  | .ldh15 o => o.loadDemand
  | .sth o => o.storeDemand
  | .sth15 o => o.storeDemand
  | .ldw o => o.loadDemand .word
  | .ldw15 o => o.loadDemand
  | .stw o => o.storeDemand
  | .stw15 o => o.storeDemand
  | .lddw o => o.loadDemand .dword
  | .nop _ => noDemand
  | .nop9 _ => noDemand
  | .idle _ => noDemand

end Sys2Proof
end

