-- ==== Sys2Proof/Machine/Legality.lean ====
section
/-! DEFINITION. Which instructions a VARIANT has: the conditions under which a decoded instruction is one of the spec's
(spec/30_encoding.md R112, R128; spec/10_state.md R21, R36; spec/41_l_unit.md R186, R188; spec/44_d_unit.md R298). -/
namespace Sys2Proof

/-- NREG: the number of registers in each file (R8, R21). -/
def Variant.nreg : Variant → Nat
  | .c64x => 32
  | _ => 16

/-- Every register that a field names exists on the VARIANT (R21); with it the odd register of an even pair does. -/
def regsExist (v : Variant) (i : Instr) : Bool :=
  (i.demand.reads ++ i.demand.writes).all fun u => decide (u.num.toNat < v.nreg)

/-- A long operand is named by the even register of its pair (R112). -/
def pairsEven (i : Instr) : Bool :=
  (i.demand.reads ++ i.demand.writes).all fun u => decide (u.size = .long → u.num.toNat % 2 = 0)

/-- A double word is named by the even register of its pair (R298; log 11). -/
def dwordEven (i : Instr) : Bool :=
  i.demand.writes.all fun u => decide (u.size = .dword → u.num.toNat % 2 = 0)

/-- LDDW exists on C67x and C64x only (R298). -/
def dwordExists (v : Variant) (i : Instr) : Bool :=
  i.demand.writes.all fun u => decide (u.size = .dword → v ≠ .c62x)

/-- A0 is a condition register on C64x only (R160). -/
def condExists (v : Variant) (i : Instr) : Bool :=
  match i.demand.cond with
  | .always => true
  | .ifNonzero r => decide (r = .a0 → v = .c64x)
  | .ifZero r => decide (r = .a0 → v = .c64x)

/-- The constant of CMPGTU and CMPLTU has 4 bits off C64x: bit 17 of the word is 0 (R126, R186, R188; log 16). -/
def cstFits (v : Variant) : Instr → Bool
  | .cmpgtuCst o => decide (v = .c64x ∨ o.cst.toNat < 16)
  | .cmpgtuCstLong o => decide (v = .c64x ∨ o.cst.toNat < 16)
  | .cmpltuCst o => decide (v = .c64x ∨ o.cst.toNat < 16)
  | .cmpltuCstLong o => decide (v = .c64x ∨ o.cst.toNat < 16)
  | _ => true

/-- The control-register numbers that MVC may read (R36). -/
def ctrlReadable (v : Variant) (n : BitVec 5) : Bool :=
  [0, 1, 2, 4, 5, 6, 7, 16].contains n.toNat || (decide (v = .c67x) && [18, 19, 20].contains n.toNat)

/-- The control-register numbers that MVC may write (R36). -/
def ctrlWritable (v : Variant) (n : BitVec 5) : Bool :=
  [0, 1, 2, 3, 4, 5, 6, 7].contains n.toNat || (decide (v = .c67x) && [18, 19, 20].contains n.toNat)

/-- MVC names a control register that it may access in its direction (R36, R226). -/
def ctrlLegal (v : Variant) : Instr → Bool
  | .mvcRead o => ctrlReadable v o.cr
  | .mvcWrite o => ctrlWritable v o.cr
  | _ => true

end Sys2Proof
end

