-- ==== Sys2Proof/Machine/Operands.lean ====
section
/-! DEFINITION. Reading operands: general registers, pairs, conditions, the addressing modes of loads and stores, and the
control registers as MVC reads them (spec/30_encoding.md R127; spec/10_state.md R24, R36-R48; spec/44_d_unit.md R282, R283). -/
namespace Sys2Proof.Machine

/-- The register file of a side. -/
def Regs.file (r : Regs) : Side → Vector Word 32
  | .a => r.a
  | .b => r.b

/-- The value of a general register. No register is hardwired (R22). -/
def Regs.get (r : Regs) (s : Side) (n : RegNum) : Word := (r.file s)[n.toNat]'n.isLt

/-- The register files with one register written. -/
def Regs.set (r : Regs) (s : Side) (n : RegNum) (v : Word) : Regs :=
  match s with
  | .a => { r with a := r.a.set n.toNat v n.isLt }
  | .b => { r with b := r.b.set n.toNat v n.isLt }

/-- `x[(S, n)]`: a general register at the start of the cycle (R127, R156). -/
def State.gpr (s : State) (side : Side) (n : RegNum) : Word := s.regs.get side n

/-- `xl[(S, n)]`: the long in the pair whose even register is `n`; bits 31:8 of the odd one are ignored (R24). -/
def State.gprLong (s : State) (side : Side) (n : RegNum) : Long :=
  (s.gpr side (n + 1)).extractLsb' 0 8 ++ s.gpr side n

/-- Does the condition hold (R161)? -/
def condHolds (s : State) : Cond → Bool
  | .always => true
  | .ifNonzero r => decide (s.gpr r.reg.1 r.reg.2 ≠ 0)
  | .ifZero r => decide (s.gpr r.reg.1 r.reg.2 = 0)

/-! ### Address arithmetic -/

/-- How a register is used in an address computation (R39, R283). -/
inductive Addressing where
  | linear
  | circular (n : BitVec 5)
  | reserved
deriving DecidableEq, Repr

/-- The AMR mode field of a register, for A4-A7 and B4-B7 (R30, R38). -/
def amrField (amr : Word) (side : Side) (r : RegNum) : BitVec 2 :=
  match side, r.toNat with
  | .a, 4 => amr.extractLsb' 0 2
  | .a, 5 => amr.extractLsb' 2 2
  | .a, 6 => amr.extractLsb' 4 2
  | .a, 7 => amr.extractLsb' 6 2
  | .b, 4 => amr.extractLsb' 8 2
  | .b, 5 => amr.extractLsb' 10 2
  | .b, 6 => amr.extractLsb' 12 2
  | .b, 7 => amr.extractLsb' 14 2
  | _, _ => 0

/-- The addressing of a base register under an AMR value: BK0 is bits 20:16, BK1 bits 25:21 (R38, R39). -/
def addressing (amr : Word) (side : Side) (r : RegNum) : Addressing :=
  match (amrField amr side r).toNat with
  | 0 => .linear
  | 1 => .circular (amr.extractLsb' 16 5)
  | 2 => .circular (amr.extractLsb' 21 5)
  | _ => .reserved

/-- `2^(N+1) - 1`: the address bits that circular addressing changes (R40, R283). -/
def blockMask (n : BitVec 5) : Word := BitVec.ofNat 32 (2 ^ (n.toNat + 1) - 1)

/-- `(+)` when `add`, `(-)` otherwise: the address add and subtract of R283 on the base value `v`. -/
def addressAdd (m : Addressing) (v off : Word) (add : Bool) : Except Fault Word :=
  let sum := if add then v + off else v - off
  match m with
  | .linear => .ok sum
  | .circular n => .ok ((v &&& ~~~(blockMask n)) ||| (sum &&& blockMask n))
  | .reserved => .error .reservedAmrMode

/-- `(+)` or `(-)` for the base register `r`, under the AMR at the start of the cycle (R283). -/
def State.address (s : State) (side : Side) (r : RegNum) (off : Word) (add : Bool) : Except Fault Word :=
  addressAdd (addressing s.ctrl.amr side r) (s.gpr side r) off add

/-- The unscaled value of an offset (R282). -/
def State.offset (s : State) (y : Side) : Offset → Word
  | .cst c => c.setWidth 32
  | .reg r => s.gpr y r

/-- The address an LSR access uses, and the new base value when the mode updates the base (R282, R288). -/
def State.lsrAddress (s : State) (o : MemForm) (size : Access) : Except Fault (Word × Option Word) :=
  match s.address o.y o.base (s.offset o.y o.mode.offset <<< size.scale) o.mode.add with
  | .error f => .error f
  | .ok v =>
    match o.mode.update with
    | .none => .ok (v, none)
    | .pre => .ok (v, some v)
    | .post => .ok (s.gpr o.y o.base, some v)

/-- The address of an LS15 access: always linear, base unchanged (R282). -/
def State.ls15Address (s : State) (o : Mem15Form) (size : Access) : Word :=
  s.gpr .b o.base + o.off.setWidth 32 <<< size.scale

/-! ### Control registers as MVC reads them -/

/-- The interrupts that can be pending and enabled, highest priority first (R342, R348). -/
def interruptNumbers : List Nat := [1, 4, 5, 6, 7, 8, 9, 10, 11, 12, 13, 14, 15]

/-- HPEINT: the highest-priority interrupt that is pending in IFR and enabled in IER, or 0 (R45; log 22). -/
def hpeint (c : Ctrl) : Nat :=
  ((interruptNumbers.find? fun n => (c.ifr &&& c.ier).getLsbD n).getD 0)

/-- ISTP read whole: ISTB, HPEINT, five zeros (R45). -/
def istpWord (c : Ctrl) : Word := c.istb ++ BitVec.ofNat 5 (hpeint c) ++ 0#5

/-- The control register with a number, as MVC reads it (R36, R48). The numbers that no register has are never read:
`ctrlReadable` guards. -/
def State.ctrlRead (s : State) (n : BitVec 5) : Word :=
  match n.toNat with
  | 0 => s.ctrl.amr
  | 1 => s.ctrl.csr
  | 2 => s.ctrl.ifr
  | 4 => s.ctrl.ier
  | 5 => istpWord s.ctrl
  | 6 => s.ctrl.irp
  | 7 => s.ctrl.nrp
  | 16 => s.pce1
  | 18 => s.ctrl.fadcr
  | 19 => s.ctrl.faucr
  | 20 => s.ctrl.fmcr
  | _ => 0

/-- What a write to the control register with a number does (R36); `none` where MVC may not write. -/
def ctrlDest (n : BitVec 5) : Option CtrlDest :=
  match n.toNat with
  | 0 => some .amr
  | 1 => some .csr
  | 2 => some .isr
  | 3 => some .icr
  | 4 => some .ier
  | 5 => some .istp
  | 6 => some .irp
  | 7 => some .nrp
  | 18 => some .fadcr
  | 19 => some .faucr
  | 20 => some .fmcr
  | _ => none

end Sys2Proof.Machine
end

