-- ==== Sys2Proof/Machine/Ops.lean ====
section
/-! DEFINITION. The shared operations: the guard of every meaning, the effects that a meaning puts in flight (R155 step 4),
the phases in which they land (R155 steps 5 and 6), taking an interrupt and returning from one (spec/60_exceptions.md R350-R357),
and reset as an event (R391). A meaning changes nothing but what is in flight; registers, memory and pc change in the phases. -/
namespace Sys2Proof.Machine

/-- One phase after another: a fault or a refusal ends the step. -/
def andThen (r : Result) (f : State → Result) : Result :=
  match r with
  | .next s => f s
  | .fault e => .fault e
  | .refused e => .refused e

/-! ### The guard of every meaning -/

/-- The fault of an instruction that the VARIANT does not have, whatever its condition (R21, R36, R112, R128; log 14). -/
def illegality (v : Variant) (i : Instr) : Option Fault :=
  if !condExists v i || !cstFits v i || !dwordExists v i || !dwordEven i then some .reservedEncoding
  else if !regsExist v i then some .noSuchRegister
  else if !pairsEven i then some .oddRegisterForPair
  else if !ctrlLegal v i then some .illegalControlRegister
  else none

/-- E1 of one instruction: `body` when the condition holds, no effect when it does not (R161). -/
def issue (i : Instr) (s : State) (body : Result) : Result :=
  match illegality s.params.variant i with
  | some f => .fault f
  | none => if condHolds s i.demand.cond then body else .next s

/-! ### Effects put in flight -/

/-- Delay slots of a 16x16 multiply (R407). -/
def mulDelay : Nat := 1
/-- Delay slots of a load's data (R412). -/
def loadDelay : Nat := 4
/-- Delay slots of a branch (R214). -/
def branchDelay : Nat := 5
/-- Delay slots of the change an ISR or ICR write makes (R410). -/
def setClearDelay : Nat := 1
/-- After how many cycles an access touches memory: in its own cycle, as R95 permits (log 7). -/
def memLatency : Nat := 0

/-- Add register writes to PW (R155 step 4). -/
def State.enqueue (s : State) (ws : List Write) : State :=
  { s with flight := { s.flight with pw := s.flight.pw ++ ws } }

/-- `x[(S, r)] <- v @+d`. -/
def State.putWord (s : State) (side : Side) (r : RegNum) (v : Word) (d : Nat) : State :=
  s.enqueue [⟨.gpr side r, v, d⟩]

/-- `xl[(S, r)] <- v`: both registers of the pair, bits 31:8 of the odd one zero, no delay slot (R24). -/
def State.putLong (s : State) (side : Side) (r : RegNum) (v : Long) : State :=
  s.enqueue [⟨.gpr side r, v.extractLsb' 0 32, 0⟩, ⟨.gpr side (r + 1), (v.extractLsb' 32 8).setWidth 32, 0⟩]

/-- A write to a control register. -/
def State.putCtrl (s : State) (c : CtrlDest) (v : Word) (d : Nat) : State :=
  s.enqueue [⟨.ctrl c, v, d⟩]

/-- SAT set, one cycle after a result with `d` delay slots (R409). -/
def State.pendSat (s : State) (d : Nat) : State :=
  { s with flight := { s.flight with psat := s.flight.psat ++ [d + 1] } }

/-- SAT set when `b`. -/
def State.pendSatIf (s : State) (b : Bool) (d : Nat) : State := if b then s.pendSat d else s

/-- The exact result `r` written saturated to 32 bits with `d` delay slots; SAT when it did not fit (R192, R231, R267). -/
def State.putSat (s : State) (side : Side) (n : RegNum) (r : Int) (d : Nat) : State :=
  (s.putWord side n (trunc 32 (clamp 32 r)) d).pendSatIf (saturates 32 r) d

/-- The exact result `r` written saturated to 40 bits; SAT when it did not fit (R192, R194). -/
def State.putSatLong (s : State) (side : Side) (n : RegNum) (r : Int) : State :=
  (s.putLong side n (trunc 40 (clamp 40 r))).pendSatIf (saturates 40 r) 0

/-- `pc <- target @+5` (R155 step 4, R214). -/
def State.pendBranch (s : State) (target : Word) (k : BranchKind) : State :=
  { s with flight := { s.flight with pb := s.flight.pb ++ [⟨target, branchDelay, k⟩] } }

/-- A branch to an address that must be a multiple of 4 (R86, R215). -/
def State.branchTo (s : State) (target : Word) (k : BranchKind) : Result :=
  if target.toNat % 4 = 0 then .next (s.pendBranch target k) else .fault .misalignedBranchTarget

/-- A load added to PM. -/
def State.pendLoad (s : State) (addr : Word) (size : Access) (signed : Bool) (side : Side) (dst : RegNum) : State :=
  { s with flight := { s.flight with pmLoads := s.flight.pmLoads ++ [⟨addr, size, signed, side, dst, memLatency⟩] } }

/-- A store added to PM. -/
def State.pendStore (s : State) (addr : Word) (size : Access) (value : Word) : State :=
  { s with flight := { s.flight with pmStores := s.flight.pmStores ++ [⟨addr, size, value, memLatency⟩] } }

/-- The base-register update of a load or store: no delay slot (R282). -/
def State.putBase (s : State) (y : Side) (base : RegNum) : Option Word → State
  | none => s
  | some v => s.putWord y base v 0

/-- NOP of `n` cycles (R165). -/
def State.requestNop (s : State) (n : Nat) : State :=
  { s with flight := { s.flight with nopreq := max s.flight.nopreq (n - 1) } }

/-- IDLE (R166). -/
def State.requestIdle (s : State) : State := { s with flight := { s.flight with idlereq := true } }

/-- Is an address a multiple of the access size (R85)? -/
def aligned (size : Access) (addr : Word) : Bool := decide (addr.toNat % size.bytes = 0)

/-- E1 of a load of format LSR (R288). -/
def State.loadLsr (s : State) (o : MemForm) (size : Access) (signed : Bool) : Result :=
  match s.lsrAddress o size with
  | .error f => .fault f
  | .ok (addr, upd) =>
    if aligned size addr then .next ((s.putBase o.y o.base upd).pendLoad addr size signed o.side o.data)
    else .fault .misalignedAccess

/-- E1 of a store of format LSR; the data register is read now (R288). -/
def State.storeLsr (s : State) (o : MemForm) (size : Access) : Result :=
  match s.lsrAddress o size with
  | .error f => .fault f
  | .ok (addr, upd) =>
    if aligned size addr then .next ((s.putBase o.y o.base upd).pendStore addr size (s.gpr o.side o.data))
    else .fault .misalignedAccess

/-- E1 of a load of format LS15 (R119, R288). -/
def State.load15 (s : State) (o : Mem15Form) (size : Access) (signed : Bool) : Result :=
  if aligned size (s.ls15Address o size) then
    .next (s.pendLoad (s.ls15Address o size) size signed o.side o.data)
  else .fault .misalignedAccess

/-- E1 of a store of format LS15 (R119, R288). -/
def State.store15 (s : State) (o : Mem15Form) (size : Access) : Result :=
  if aligned size (s.ls15Address o size) then
    .next (s.pendStore (s.ls15Address o size) size (s.gpr o.side o.data))
  else .fault .misalignedAccess

/-! ### The memory phase -/

/-- A load's value extended to a register (R83, R290-R294); `v` is what MemRead gave. -/
def loadValue (size : Access) (signed : Bool) (v : Nat) : Word :=
  match size, signed with
  | .byte, true => (BitVec.ofNat 8 v).signExtend 32
  | .half, true => (BitVec.ofNat 16 v).signExtend 32
  | _, _ => BitVec.ofNat 32 v

/-- The register writes of a load that has read memory: for LDDW the low word to the even register (R288, R298). -/
def loadWrites (s : State) (l : Load) : List Write :=
  let v := memRead s.params.endian s.mem l.addr.toNat l.size.bytes
  let low : Write := ⟨.gpr l.side l.dst, loadValue l.size l.signed v, loadDelay - memLatency⟩
  match l.size with
  | .dword => [low, ⟨.gpr l.side (l.dst + 1), BitVec.ofNat 32 (v / 2 ^ 32), loadDelay - memLatency⟩]
  | _ => [low]

/-- One store written to memory: the low bytes of its value (R83, R288). -/
def performStore (e : Endian) (m : Memory) (t : Store) : Memory :=
  memWrite e m t.addr.toNat t.size.bytes t.value.toNat

/-- Do two stores overlap (R95)? -/
def overlap (t u : Store) : Bool :=
  decide (t.addr.toNat < u.addr.toNat + u.size.bytes ∧ u.addr.toNat < t.addr.toNat + t.size.bytes)

/-- No two stores of a list overlap. -/
def disjointStores : List Store → Bool
  | [] => true
  | t :: ts => ts.all (fun u => !overlap t u) && disjointStores ts

/-- Every byte of an access is data memory (R93; log 24). -/
def State.accessible (s : State) (addr : Word) (size : Access) : Bool :=
  allKind s.params.memmap .data addr.toNat size.bytes

/-- The accesses that reach memory in this cycle: loads first, then stores (R95). An access outside
data memory stops with `stuckData` (R93) before two stores that overlap stop with `parallelStoreConflict` (R95): the spec gives no
order where both apply (log 30, DESIGN CHOICE). -/
def memPhase (s : State) : Result :=
  let loads := s.flight.pmLoads.filter fun l => l.left == 0
  let stores := s.flight.pmStores.filter fun t => t.left == 0
  if !(loads.all fun l => s.accessible l.addr l.size) || !(stores.all fun t => s.accessible t.addr t.size) then
    .fault .stuckData
  else if !disjointStores stores then .fault .parallelStoreConflict
  else .next { s with
    mem := stores.foldl (performStore s.params.endian) s.mem
    flight := { s.flight with
      pw := s.flight.pw ++ loads.flatMap (loadWrites s)
      pmLoads := (s.flight.pmLoads.filter fun l => l.left != 0).map fun l => { l with left := l.left - 1 }
      pmStores := (s.flight.pmStores.filter fun t => t.left != 0).map fun t => { t with left := t.left - 1 } } }

/-! ### Landing (R155 step 5) -/

/-- The interrupt flags that software and requests may set: IF4 to IF15 (R41-R43). -/
def maskableFlags : Word := 0xFFF0
/-- The flags that a request may set: NMIF and IF4 to IF15 (R41, R343). -/
def requestFlags : Word := 0xFFF2

/-- CSR after an MVC write of `w`: PWRD, PCC, DCC, PGIE, GIE are written, SAT can only be cleared, the ids and EN stay (R37). -/
def csrWrite (old w : Word) : Word := (old &&& 0xFFFF0100) ||| (w &&& 0x0000FCFF) ||| (old &&& w &&& 0x00000200)

/-- IER after an MVC write of `w`: IEn are written, NMIE can only be set, bit 0 is 1, the rest 0 (R44). -/
def ierWrite (old w : Word) : Word := 1 ||| (w &&& maskableFlags) ||| ((old ||| w) &&& 2)

/-- The effect of a write to the control register file when it lands (R37-R52, R410). -/
def Ctrl.land (c : Ctrl) : CtrlDest → Word → Ctrl
  | .amr, w => { c with amr := w &&& 0x03FFFFFF }
  | .csr, w => { c with csr := csrWrite c.csr w }
  | .isr, w => { c with ifr := c.ifr ||| (w &&& maskableFlags) }
  | .icr, w => { c with ifr := c.ifr &&& ~~~(w &&& maskableFlags) }
  | .ier, w => { c with ier := ierWrite c.ier w }
  | .istp, w => { c with istb := w.extractLsb' 10 22 }
  | .irp, w => { c with irp := w }
  | .nrp, w => { c with nrp := w }
  | .fadcr, w => { c with fadcr := w &&& 0x07FF07FF }
  | .faucr, w => { c with faucr := w &&& 0x07FF07FF }
  | .fmcr, w => { c with fmcr := w &&& 0x07FF07FF }

/-- The register a pending write names: a set and a clear of flags both name IFR (R410; log 25). -/
def Target.named : Target → Target
  | .ctrl .icr => .ctrl .isr
  | t => t

/-- No target occurs twice. -/
def distinct : List Target → Bool
  | [] => true
  | t :: ts => !ts.contains t && distinct ts

/-- One write applied. -/
def applyWrite (s : State) (w : Write) : State :=
  match w.target with
  | .gpr side r => { s with regs := s.regs.set side r w.value }
  | .ctrl c => { s with ctrl := s.ctrl.land c w.value }

/-- The writes that land together are applied, or two of them name one register (R155 step 5, R157). -/
def landWrites (s : State) : Result :=
  let due := s.flight.pw.filter fun w => w.left == 0
  if distinct (due.map fun w => w.target.named) then
    let t := due.foldl applyWrite s
    .next { t with flight := { t.flight with
      pw := (s.flight.pw.filter fun w => w.left != 0).map fun w => { w with left := w.left - 1 } } }
  else .fault .writeConflict

/-- CSR with SAT set (R37). -/
def setSat (csr : Word) : Word := csr ||| 0x00000200

/-- The PSAT entries that are due set SAT, after the writes of the cycle (R409). -/
def landSat (s : State) : State :=
  { s with
    ctrl := { s.ctrl with csr := if s.flight.psat.any (· == 0) then setSat s.ctrl.csr else s.ctrl.csr }
    flight := { s.flight with psat := (s.flight.psat.filter (· != 0)).map (· - 1) } }

/-- Requests set their flags (R343, R344). -/
def raiseFlags (s : State) (requests : Word) : State :=
  { s with ctrl := { s.ctrl with ifr := s.ctrl.ifr ||| (requests &&& requestFlags) } }

/-- R155 step 5. A request that arrived in this cycle wins over a clear that lands in it (R43, R410; log 15). -/
def landPhase (s : State) (requests : Word) : Result :=
  andThen (landWrites s) fun t => .next (raiseFlags (landSat t) requests)

/-! ### Branches that land, and return from an interrupt (R155 step 6) -/

/-- Return from a maskable interrupt: GIE := PGIE, PGIE unchanged (R216, R356). -/
def returnIrp (c : Ctrl) : Ctrl := { c with csr := (c.csr &&& ~~~(1 : Word)) ||| ((c.csr >>> 1) &&& 1) }

/-- Return from the NMI: NMIE := 1 (R217, R357). -/
def returnNrp (c : Ctrl) : Ctrl := { c with ier := c.ier ||| 2 }

/-- What the kind of a landing branch does (R155 step 6). -/
def Ctrl.afterBranch (c : Ctrl) : BranchKind → Ctrl
  | .plain => c
  | .irp => returnIrp c
  | .nrp => returnNrp c

/-- R155 step 6: `next` is the address that follows when no branch lands. -/
def branchPhase (s : State) (next : Word) : Result :=
  let rest := (s.flight.pb.filter fun b => b.left != 0).map fun b => { b with left := b.left - 1 }
  match s.flight.pb.filter fun b => b.left == 0 with
  | [] => .next { s with pc := next, flight := { s.flight with pb := rest } }
  | [b] => .next { s with
      pc := b.target, ctrl := s.ctrl.afterBranch b.kind
      flight := { s.flight with pb := rest, nopcnt := 0, nopreq := 0 } }
  | _ => .fault .branchConflict

/-! ### Taking an interrupt (R350-R353) -/

/-- GIE (R37). -/
def Ctrl.gie (c : Ctrl) : Bool := c.csr.getLsbD 0
/-- NMIE (R44). -/
def Ctrl.nmie (c : Ctrl) : Bool := c.ier.getLsbD 1

/-- The interrupt that can be taken at the start of this cycle, highest priority first: 1 for NMI, else 4 to 15 (R348, R350). -/
def readyInterrupt (s : State) : Option Nat :=
  if s.flight.bshadow = 0 ∧ s.ctrl.nmie then
    if s.ctrl.ifr.getLsbD 1 then some 1
    else if s.ctrl.gie then
      (interruptNumbers.drop 1).find? fun n => (s.ctrl.ifr &&& s.ctrl.ier).getLsbD n
    else none
  else none

/-- The address of the service fetch packet of interrupt `n` (R345). -/
def serviceAddress (c : Ctrl) (n : Nat) : Word := (c.istb ++ 0#10) + BitVec.ofNat 32 (32 * n)

/-- What taking interrupt `n` saves and changes in the control registers: NMI (R353) or a maskable one (R352). -/
def Ctrl.entry (c : Ctrl) (n : Nat) (pc : Word) : Ctrl :=
  if n = 1 then
    { c with ifr := c.ifr &&& ~~~(2 : Word), ier := c.ier &&& ~~~(2 : Word), nrp := pc }
  else
    { c with ifr := c.ifr &&& ~~~(BitVec.ofNat 32 (2 ^ n))
             csr := (c.csr &&& ~~~(3 : Word)) ||| ((c.csr &&& 1) <<< 1)
             irp := pc }

/-- Entry to interrupt `n` of a drained machine (R352, R353). -/
def enterInterrupt (n : Nat) (s : State) : State :=
  { s with
    ctrl := s.ctrl.entry n s.pc
    pc := serviceAddress s.ctrl n
    flight := { s.flight with nopcnt := 0, idle := false } }

/-- Nothing is left in PW, PM and PSAT. -/
def Flight.drained (f : Flight) : Bool :=
  f.pw.isEmpty && f.pmLoads.isEmpty && f.pmStores.isEmpty && f.psat.isEmpty

/-- Apply what is in flight in the order of the remaining cycles (R351): the memory phase and the landing of one cycle
after another, at most `fuel` of them, until nothing is left. -/
def drain (requests : Word) : Nat → State → Result
  | 0, s => .next s
  | fuel + 1, s =>
    if s.flight.drained then .next s
    else andThen (memPhase s) fun t => andThen (landPhase t requests) (drain requests fuel)

/-- Enough cycles to drain what is in flight. -/
def Flight.drainTime (f : Flight) : Nat :=
  (f.pw.map (·.left)).sum + (f.pmLoads.map (·.left)).sum + (f.pmStores.map (·.left)).sum + f.psat.sum + loadDelay + 2

/-- Taking interrupt `n`: drain, then the entry. The one operation of every interrupt but Reset (R351-R353). -/
def takeInterrupt (n : Nat) (requests : Word) (s : State) : Result :=
  andThen (drain requests s.flight.drainTime s) fun t => .next (enterInterrupt n t)

/-! ### Reset as an event (R354, R391) -/

/-- Reset: everything but memory, the parameters and the environment takes its reset value (R55, R391, R393). -/
def resetEntry (s : State) : State :=
  { s with regs := Regs.reset, ctrl := Ctrl.reset s.params, pc := 0, pce1 := 0, flight := Flight.empty }

end Sys2Proof.Machine
end

