-- ==== Sys2Proof/Machine/Control.lean ====
section
/-! DEFINITION. Branches (spec/42_s_unit.md R214-R217). -/
namespace Sys2Proof.Machine

/-- B (src2 xuint (register form)), R215. -/
def execBReg (o : BRegForm) (s : State) : Result :=
  issue (.bReg o) s (s.branchTo (s.gpr (Side.b.via o.x) o.src2) .plain)

/-- B IRP (none (src2 field = 00110, IRP)), R216. -/
def execBIrp (o : CondForm) (s : State) : Result :=
  issue (.bIrp o) s (s.branchTo s.ctrl.irp .irp)

/-- B NRP (none (src2 field = 00111, NRP)), R217. -/
def execBNrp (o : CondForm) (s : State) : Result :=
  issue (.bNrp o) s (s.branchTo s.ctrl.nrp .nrp)

/-- B (scst21 (word displacement from PCE1)), R214. -/
def execBDisp (o : DispForm) (s : State) : Result :=
  issue (.bDisp o) s (.next (s.pendBranch (trunc 32 (zext s.pce1 + sext o.cst * 4)) .plain))

end Sys2Proof.Machine
end

