-- ==== Sys2Proof/Machine/DUnit.lean ====
section
/-! DEFINITION. Arithmetic on the .D units (spec/44_d_unit.md R280-R287). All have 0 delay slots. -/
namespace Sys2Proof.Machine

/-- ADDAB to SUBAW: the offset scaled by the size, added or subtracted in the addressing of the base register (R286, R287). -/
def State.putAddress (s : State) (side : Side) (base dst : RegNum) (a : Word) (size : Access) (add : Bool) : Result :=
  match s.address side base (a <<< size.scale) add with
  | .ok v => .next (s.putWord side dst v 0)
  | .error f => .fault f

/-- ADD (src2 sint, src1 sint, dst sint), R284. -/
def execAddDReg (o : RForm) (s : State) : Result :=
  issue (.addDReg o) s <|
    .next (s.putWord o.side o.dst (trunc 32 (sext (s.gpr o.side o.src2) + sext (s.gpr o.side o.src1))) 0)

/-- SUB (src2 sint, src1 sint, dst sint), R285. -/
def execSubDReg (o : RForm) (s : State) : Result :=
  issue (.subDReg o) s <|
    .next (s.putWord o.side o.dst (trunc 32 (sext (s.gpr o.side o.src2) - sext (s.gpr o.side o.src1))) 0)

/-- ADD (src2 sint, src1 ucst5, dst sint), R284. -/
def execAddDCst (o : CForm) (s : State) : Result :=
  issue (.addDCst o) s (.next (s.putWord o.side o.dst (trunc 32 (sext (s.gpr o.side o.src2) + zext o.cst)) 0))

/-- SUB (src2 sint, src1 ucst5, dst sint), R285. -/
def execSubDCst (o : CForm) (s : State) : Result :=
  issue (.subDCst o) s (.next (s.putWord o.side o.dst (trunc 32 (sext (s.gpr o.side o.src2) - zext o.cst)) 0))

/-- ADDAB (src2 sint, src1 sint, dst sint), R286. -/
def execAddabReg (o : RForm) (s : State) : Result :=
  issue (.addabReg o) s (s.putAddress o.side o.src2 o.dst (s.gpr o.side o.src1) .byte true)

/-- SUBAB (src2 sint, src1 sint, dst sint), R287. -/
def execSubabReg (o : RForm) (s : State) : Result :=
  issue (.subabReg o) s (s.putAddress o.side o.src2 o.dst (s.gpr o.side o.src1) .byte false)

/-- ADDAB (src2 sint, src1 ucst5, dst sint), R286. -/
def execAddabCst (o : CForm) (s : State) : Result :=
  issue (.addabCst o) s (s.putAddress o.side o.src2 o.dst (o.cst.setWidth 32) .byte true)

/-- SUBAB (src2 sint, src1 ucst5, dst sint), R287. -/
def execSubabCst (o : CForm) (s : State) : Result :=
  issue (.subabCst o) s (s.putAddress o.side o.src2 o.dst (o.cst.setWidth 32) .byte false)

/-- ADDAH (src2 sint, src1 sint, dst sint), R286. -/
def execAddahReg (o : RForm) (s : State) : Result :=
  issue (.addahReg o) s (s.putAddress o.side o.src2 o.dst (s.gpr o.side o.src1) .half true)

/-- SUBAH (src2 sint, src1 sint, dst sint), R287. -/
def execSubahReg (o : RForm) (s : State) : Result :=
  issue (.subahReg o) s (s.putAddress o.side o.src2 o.dst (s.gpr o.side o.src1) .half false)

/-- ADDAH (src2 sint, src1 ucst5, dst sint), R286. -/
def execAddahCst (o : CForm) (s : State) : Result :=
  issue (.addahCst o) s (s.putAddress o.side o.src2 o.dst (o.cst.setWidth 32) .half true)

/-- SUBAH (src2 sint, src1 ucst5, dst sint), R287. -/
def execSubahCst (o : CForm) (s : State) : Result :=
  issue (.subahCst o) s (s.putAddress o.side o.src2 o.dst (o.cst.setWidth 32) .half false)

/-- ADDAW (src2 sint, src1 sint, dst sint), R286. -/
def execAddawReg (o : RForm) (s : State) : Result :=
  issue (.addawReg o) s (s.putAddress o.side o.src2 o.dst (s.gpr o.side o.src1) .word true)

/-- SUBAW (src2 sint, src1 sint, dst sint), R287. -/
def execSubawReg (o : RForm) (s : State) : Result :=
  issue (.subawReg o) s (s.putAddress o.side o.src2 o.dst (s.gpr o.side o.src1) .word false)

/-- ADDAW (src2 sint, src1 ucst5, dst sint), R286. -/
def execAddawCst (o : CForm) (s : State) : Result :=
  issue (.addawCst o) s (s.putAddress o.side o.src2 o.dst (o.cst.setWidth 32) .word true)

/-- SUBAW (src2 sint, src1 ucst5, dst sint), R287. -/
def execSubawCst (o : CForm) (s : State) : Result :=
  issue (.subawCst o) s (s.putAddress o.side o.src2 o.dst (o.cst.setWidth 32) .word false)

end Sys2Proof.Machine
end

