-- ==== Sys2Proof/Machine/LUnit.lean ====
section
/-! DEFINITION. The instructions of the .L units (spec/41_l_unit.md R178-R198). All have 0 delay slots. -/
namespace Sys2Proof.Machine

/-- ADD (scst5, xsint, sint), R181. -/
def execAddLCst (o : XCstForm) (s : State) : Result :=
  issue (.addLCst o) s <|
    .next (s.putWord o.side o.dst (trunc 32 (sext o.cst + sext (s.gpr (o.side.via o.x) o.src2))) 0)

/-- ADD (sint, xsint, sint), R181. -/
def execAddLReg (o : XForm) (s : State) : Result :=
  issue (.addLReg o) s <|
    .next (s.putWord o.side o.dst (trunc 32 (sext (s.gpr o.side o.src1) + sext (s.gpr (o.side.via o.x) o.src2))) 0)

/-- SUB (scst5, xsint, sint), R195. -/
def execSubLCst (o : XCstForm) (s : State) : Result :=
  issue (.subLCst o) s <|
    .next (s.putWord o.side o.dst (trunc 32 (sext o.cst - sext (s.gpr (o.side.via o.x) o.src2))) 0)

/-- SUB (sint, xsint, sint), R195. -/
def execSubLReg (o : XForm) (s : State) : Result :=
  issue (.subLReg o) s <|
    .next (s.putWord o.side o.dst (trunc 32 (sext (s.gpr o.side o.src1) - sext (s.gpr (o.side.via o.x) o.src2))) 0)

/-- SSUB (scst5, xsint, sint), R194. -/
def execSsubCst (o : XCstForm) (s : State) : Result :=
  issue (.ssubCst o) s (.next (s.putSat o.side o.dst (sext o.cst - sext (s.gpr (o.side.via o.x) o.src2)) 0))

/-- SSUB (sint, xsint, sint), R194. -/
def execSsubReg (o : XForm) (s : State) : Result :=
  issue (.ssubReg o) s <|
    .next (s.putSat o.side o.dst (sext (s.gpr o.side o.src1) - sext (s.gpr (o.side.via o.x) o.src2)) 0)

/-- SADD (scst5, xsint, sint), R192. -/
def execSaddCst (o : XCstForm) (s : State) : Result :=
  issue (.saddCst o) s (.next (s.putSat o.side o.dst (sext o.cst + sext (s.gpr (o.side.via o.x) o.src2)) 0))

/-- SADD (sint, xsint, sint), R192. -/
def execSaddReg (o : XForm) (s : State) : Result :=
  issue (.saddReg o) s <|
    .next (s.putSat o.side o.dst (sext (s.gpr o.side o.src1) + sext (s.gpr (o.side.via o.x) o.src2)) 0)

/-- SUB (xsint, sint, sint), R195. -/
def execSubLRegX1 (o : XForm) (s : State) : Result :=
  issue (.subLRegX1 o) s <|
    .next (s.putWord o.side o.dst (trunc 32 (sext (s.gpr (o.side.via o.x) o.src1) - sext (s.gpr o.side o.src2))) 0)

/-- ABS (xsint, sint), R180. -/
def execAbsWord (o : XUnForm) (s : State) : Result :=
  issue (.absWord o) s <|
    .next (s.putWord o.side o.dst (trunc 32 (absSat 32 (sext (s.gpr (o.side.via o.x) o.src2)))) 0)

/-- SSUB (xsint, sint, sint), R194. -/
def execSsubRegX1 (o : XForm) (s : State) : Result :=
  issue (.ssubRegX1 o) s <|
    .next (s.putSat o.side o.dst (sext (s.gpr (o.side.via o.x) o.src1) - sext (s.gpr o.side o.src2)) 0)

/-- ADD (scst5, slong, slong), R181. -/
def execAddLCstLong (o : CForm) (s : State) : Result :=
  issue (.addLCstLong o) s (.next (s.putLong o.side o.dst (trunc 40 (sext o.cst + sext (s.gprLong o.side o.src2)))))

/-- ADD (xsint, slong, slong), R181. -/
def execAddLRegLong (o : XForm) (s : State) : Result :=
  issue (.addLRegLong o) s <|
    .next (s.putLong o.side o.dst (trunc 40 (sext (s.gpr (o.side.via o.x) o.src1) + sext (s.gprLong o.side o.src2))))

/-- ADD (sint, xsint, slong), R181. -/
def execAddLWide (o : XForm) (s : State) : Result :=
  issue (.addLWide o) s <|
    .next (s.putLong o.side o.dst (trunc 40 (sext (s.gpr o.side o.src1) + sext (s.gpr (o.side.via o.x) o.src2))))

/-- SUB (scst5, slong, slong), R195. -/
def execSubLCstLong (o : CForm) (s : State) : Result :=
  issue (.subLCstLong o) s (.next (s.putLong o.side o.dst (trunc 40 (sext o.cst - sext (s.gprLong o.side o.src2)))))

/-- SUB (sint, xsint, slong), R195. -/
def execSubLWide (o : XForm) (s : State) : Result :=
  issue (.subLWide o) s <|
    .next (s.putLong o.side o.dst (trunc 40 (sext (s.gpr o.side o.src1) - sext (s.gpr (o.side.via o.x) o.src2))))

/-- ADDU (xuint, ulong, ulong), R182. -/
def execAdduRegLong (o : XForm) (s : State) : Result :=
  issue (.adduRegLong o) s <|
    .next (s.putLong o.side o.dst (trunc 40 (zext (s.gpr (o.side.via o.x) o.src1) + zext (s.gprLong o.side o.src2))))

/-- ADDU (uint, xuint, ulong), R182. -/
def execAdduWide (o : XForm) (s : State) : Result :=
  issue (.adduWide o) s <|
    .next (s.putLong o.side o.dst (trunc 40 (zext (s.gpr o.side o.src1) + zext (s.gpr (o.side.via o.x) o.src2))))

/-- SSUB (scst5, slong, slong), R194. -/
def execSsubCstLong (o : CForm) (s : State) : Result :=
  issue (.ssubCstLong o) s (.next (s.putSatLong o.side o.dst (sext o.cst - sext (s.gprLong o.side o.src2))))

/-- SUBU (uint, xuint, ulong), R196. -/
def execSubuWide (o : XForm) (s : State) : Result :=
  issue (.subuWide o) s <|
    .next (s.putLong o.side o.dst (trunc 40 (zext (s.gpr o.side o.src1) - zext (s.gpr (o.side.via o.x) o.src2))))

/-- SADD (scst5, slong, slong), R192. -/
def execSaddCstLong (o : CForm) (s : State) : Result :=
  issue (.saddCstLong o) s (.next (s.putSatLong o.side o.dst (sext o.cst + sext (s.gprLong o.side o.src2))))

/-- SADD (xsint, slong, slong), R192. -/
def execSaddRegLong (o : XForm) (s : State) : Result :=
  issue (.saddRegLong o) s <|
    .next (s.putSatLong o.side o.dst (sext (s.gpr (o.side.via o.x) o.src1) + sext (s.gprLong o.side o.src2)))

/-- SUB (xsint, sint, slong), R195. -/
def execSubLWideX1 (o : XForm) (s : State) : Result :=
  issue (.subLWideX1 o) s <|
    .next (s.putLong o.side o.dst (trunc 40 (sext (s.gpr (o.side.via o.x) o.src1) - sext (s.gpr o.side o.src2))))

/-- ABS (slong, slong), R180. -/
def execAbsLong (o : UnForm) (s : State) : Result :=
  issue (.absLong o) s (.next (s.putLong o.side o.dst (trunc 40 (absSat 40 (sext (s.gprLong o.side o.src2))))))

/-- SUBU (xuint, uint, ulong), R196. -/
def execSubuWideX1 (o : XForm) (s : State) : Result :=
  issue (.subuWideX1 o) s <|
    .next (s.putLong o.side o.dst (trunc 40 (zext (s.gpr (o.side.via o.x) o.src1) - zext (s.gpr o.side o.src2))))

/-- SAT (slong, sint), R193. -/
def execSat (o : UnForm) (s : State) : Result :=
  issue (.sat o) s (.next (s.putSat o.side o.dst (sext (s.gprLong o.side o.src2)) 0))

/-- CMPGT (scst5, slong, uint), R185. -/
def execCmpgtCstLong (o : CForm) (s : State) : Result :=
  issue (.cmpgtCstLong o) s <|
    .next (s.putWord o.side o.dst (truth (decide (sext o.cst > sext (s.gprLong o.side o.src2)))) 0)

/-- CMPGT (xsint, slong, uint), R185. -/
def execCmpgtRegLong (o : XForm) (s : State) : Result :=
  issue (.cmpgtRegLong o) s <|
    .next (s.putWord o.side o.dst (truth (decide (sext (s.gpr (o.side.via o.x) o.src1) > sext (s.gprLong o.side o.src2)))) 0)

/-- CMPGT (scst5, xsint, uint), R185. -/
def execCmpgtCst (o : XCstForm) (s : State) : Result :=
  issue (.cmpgtCst o) s <|
    .next (s.putWord o.side o.dst (truth (decide (sext o.cst > sext (s.gpr (o.side.via o.x) o.src2)))) 0)

/-- CMPGT (sint, xsint, uint), R185. -/
def execCmpgtReg (o : XForm) (s : State) : Result :=
  issue (.cmpgtReg o) s <|
    .next (s.putWord o.side o.dst (truth (decide (sext (s.gpr o.side o.src1) > sext (s.gpr (o.side.via o.x) o.src2)))) 0)

/-- SUBC (uint, xuint, uint), R197. -/
def execSubc (o : XForm) (s : State) : Result :=
  issue (.subc o) s <|
    .next (s.putWord o.side o.dst (trunc 32 (subcStep (s.gpr o.side o.src1) (s.gpr (o.side.via o.x) o.src2))) 0)

/-- CMPGTU (ucst4, ulong, uint), R186. -/
def execCmpgtuCstLong (o : CForm) (s : State) : Result :=
  issue (.cmpgtuCstLong o) s <|
    .next (s.putWord o.side o.dst (truth (decide (zext o.cst > zext (s.gprLong o.side o.src2)))) 0)

/-- CMPGTU (xuint, ulong, uint), R186. -/
def execCmpgtuRegLong (o : XForm) (s : State) : Result :=
  issue (.cmpgtuRegLong o) s <|
    .next (s.putWord o.side o.dst (truth (decide (zext (s.gpr (o.side.via o.x) o.src1) > zext (s.gprLong o.side o.src2)))) 0)

/-- CMPGTU (ucst4, xuint, uint), R186. -/
def execCmpgtuCst (o : XCstForm) (s : State) : Result :=
  issue (.cmpgtuCst o) s <|
    .next (s.putWord o.side o.dst (truth (decide (zext o.cst > zext (s.gpr (o.side.via o.x) o.src2)))) 0)

/-- CMPGTU (uint, xuint, uint), R186. -/
def execCmpgtuReg (o : XForm) (s : State) : Result :=
  issue (.cmpgtuReg o) s <|
    .next (s.putWord o.side o.dst (truth (decide (zext (s.gpr o.side o.src1) > zext (s.gpr (o.side.via o.x) o.src2)))) 0)

/-- CMPEQ (scst5, slong, uint), R184. -/
def execCmpeqCstLong (o : CForm) (s : State) : Result :=
  issue (.cmpeqCstLong o) s <|
    .next (s.putWord o.side o.dst (truth (decide (sext o.cst = sext (s.gprLong o.side o.src2)))) 0)

/-- CMPEQ (xsint, slong, uint), R184. -/
def execCmpeqRegLong (o : XForm) (s : State) : Result :=
  issue (.cmpeqRegLong o) s <|
    .next (s.putWord o.side o.dst (truth (decide (sext (s.gpr (o.side.via o.x) o.src1) = sext (s.gprLong o.side o.src2)))) 0)

/-- CMPEQ (scst5, xsint, uint), R184. -/
def execCmpeqCst (o : XCstForm) (s : State) : Result :=
  issue (.cmpeqCst o) s <|
    .next (s.putWord o.side o.dst (truth (decide (sext o.cst = sext (s.gpr (o.side.via o.x) o.src2)))) 0)

/-- CMPEQ (sint, xsint, uint), R184. -/
def execCmpeqReg (o : XForm) (s : State) : Result :=
  issue (.cmpeqReg o) s <|
    .next (s.putWord o.side o.dst (truth (decide (sext (s.gpr o.side o.src1) = sext (s.gpr (o.side.via o.x) o.src2)))) 0)

/-- CMPLT (scst5, slong, uint), R187. -/
def execCmpltCstLong (o : CForm) (s : State) : Result :=
  issue (.cmpltCstLong o) s <|
    .next (s.putWord o.side o.dst (truth (decide (sext o.cst < sext (s.gprLong o.side o.src2)))) 0)

/-- CMPLT (xsint, slong, uint), R187. -/
def execCmpltRegLong (o : XForm) (s : State) : Result :=
  issue (.cmpltRegLong o) s <|
    .next (s.putWord o.side o.dst (truth (decide (sext (s.gpr (o.side.via o.x) o.src1) < sext (s.gprLong o.side o.src2)))) 0)

/-- CMPLT (scst5, xsint, uint), R187. -/
def execCmpltCst (o : XCstForm) (s : State) : Result :=
  issue (.cmpltCst o) s <|
    .next (s.putWord o.side o.dst (truth (decide (sext o.cst < sext (s.gpr (o.side.via o.x) o.src2)))) 0)

/-- CMPLT (sint, xsint, uint), R187. -/
def execCmpltReg (o : XForm) (s : State) : Result :=
  issue (.cmpltReg o) s <|
    .next (s.putWord o.side o.dst (truth (decide (sext (s.gpr o.side o.src1) < sext (s.gpr (o.side.via o.x) o.src2)))) 0)

/-- CMPLTU (ucst4, ulong, uint), R188. -/
def execCmpltuCstLong (o : CForm) (s : State) : Result :=
  issue (.cmpltuCstLong o) s <|
    .next (s.putWord o.side o.dst (truth (decide (zext o.cst < zext (s.gprLong o.side o.src2)))) 0)

/-- CMPLTU (xuint, ulong, uint), R188. -/
def execCmpltuRegLong (o : XForm) (s : State) : Result :=
  issue (.cmpltuRegLong o) s <|
    .next (s.putWord o.side o.dst (truth (decide (zext (s.gpr (o.side.via o.x) o.src1) < zext (s.gprLong o.side o.src2)))) 0)

/-- CMPLTU (ucst4, xuint, uint), R188. -/
def execCmpltuCst (o : XCstForm) (s : State) : Result :=
  issue (.cmpltuCst o) s <|
    .next (s.putWord o.side o.dst (truth (decide (zext o.cst < zext (s.gpr (o.side.via o.x) o.src2)))) 0)

/-- CMPLTU (uint, xuint, uint), R188. -/
def execCmpltuReg (o : XForm) (s : State) : Result :=
  issue (.cmpltuReg o) s <|
    .next (s.putWord o.side o.dst (truth (decide (zext (s.gpr o.side o.src1) < zext (s.gpr (o.side.via o.x) o.src2)))) 0)

/-- NORM (slong, uint), R190. -/
def execNormLong (o : UnForm) (s : State) : Result :=
  issue (.normLong o) s <|
    .next (s.putWord o.side o.dst (BitVec.ofNat 32 (redundantSign (s.gprLong o.side o.src2))) 0)

/-- NORM (xsint, uint), R190. -/
def execNormWord (o : XUnForm) (s : State) : Result :=
  issue (.normWord o) s <|
    .next (s.putWord o.side o.dst (BitVec.ofNat 32 (redundantSign (s.gpr (o.side.via o.x) o.src2))) 0)

/-- LMBD (cst5, xuint, uint), R189. -/
def execLmbdCst (o : XCstForm) (s : State) : Result :=
  issue (.lmbdCst o) s <|
    .next (s.putWord o.side o.dst (BitVec.ofNat 32 (leftmost (o.cst.getLsbD 0) (s.gpr (o.side.via o.x) o.src2))) 0)

/-- LMBD (uint, xuint, uint), R189. -/
def execLmbdReg (o : XForm) (s : State) : Result :=
  issue (.lmbdReg o) s <|
    .next (s.putWord o.side o.dst (BitVec.ofNat 32 (leftmost ((s.gpr o.side o.src1).getLsbD 0) (s.gpr (o.side.via o.x) o.src2))) 0)

/-- XOR (scst5, xuint, uint), R198. -/
def execXorLCst (o : XCstForm) (s : State) : Result :=
  issue (.xorLCst o) s (.next (s.putWord o.side o.dst (o.cst.signExtend 32 ^^^ s.gpr (o.side.via o.x) o.src2) 0))

/-- XOR (uint, xuint, uint), R198. -/
def execXorLReg (o : XForm) (s : State) : Result :=
  issue (.xorLReg o) s (.next (s.putWord o.side o.dst (s.gpr o.side o.src1 ^^^ s.gpr (o.side.via o.x) o.src2) 0))

/-- AND (scst5, xuint, uint), R183. -/
def execAndLCst (o : XCstForm) (s : State) : Result :=
  issue (.andLCst o) s (.next (s.putWord o.side o.dst (o.cst.signExtend 32 &&& s.gpr (o.side.via o.x) o.src2) 0))

/-- AND (uint, xuint, uint), R183. -/
def execAndLReg (o : XForm) (s : State) : Result :=
  issue (.andLReg o) s (.next (s.putWord o.side o.dst (s.gpr o.side o.src1 &&& s.gpr (o.side.via o.x) o.src2) 0))

/-- OR (scst5, xuint, uint), R191. -/
def execOrLCst (o : XCstForm) (s : State) : Result :=
  issue (.orLCst o) s (.next (s.putWord o.side o.dst (o.cst.signExtend 32 ||| s.gpr (o.side.via o.x) o.src2) 0))

/-- OR (uint, xuint, uint), R191. -/
def execOrLReg (o : XForm) (s : State) : Result :=
  issue (.orLReg o) s (.next (s.putWord o.side o.dst (s.gpr o.side o.src1 ||| s.gpr (o.side.via o.x) o.src2) 0))

end Sys2Proof.Machine
end

