-- ==== Sys2Proof/Machine/LoadStore.lean ====
section
/-! DEFINITION. Loads and stores (spec/44_d_unit.md R288-R298). -/
namespace Sys2Proof.Machine

/-- LDHU (base plus ucst5 or offsetR), R293. -/
def execLdhu (o : MemForm) (s : State) : Result :=
  issue (.ldhu o) s (s.loadLsr o .half false)

/-- LDHU (B14 or B15 plus ucst15), R293. -/
def execLdhu15 (o : Mem15Form) (s : State) : Result :=
  issue (.ldhu15 o) s (s.load15 o .half false)

/-- LDBU (base plus ucst5 or offsetR), R291. -/
def execLdbu (o : MemForm) (s : State) : Result :=
  issue (.ldbu o) s (s.loadLsr o .byte false)

/-- LDBU (B14 or B15 plus ucst15), R291. -/
def execLdbu15 (o : Mem15Form) (s : State) : Result :=
  issue (.ldbu15 o) s (s.load15 o .byte false)

/-- LDB (base plus ucst5 or offsetR), R290. -/
def execLdb (o : MemForm) (s : State) : Result :=
  issue (.ldb o) s (s.loadLsr o .byte true)

/-- LDB (B14 or B15 plus ucst15), R290. -/
def execLdb15 (o : Mem15Form) (s : State) : Result :=
  issue (.ldb15 o) s (s.load15 o .byte true)

/-- STB (base plus ucst5 or offsetR), R295. -/
def execStb (o : MemForm) (s : State) : Result :=
  issue (.stb o) s (s.storeLsr o .byte)

/-- STB (B14 or B15 plus ucst15), R295. -/
def execStb15 (o : Mem15Form) (s : State) : Result :=
  issue (.stb15 o) s (s.store15 o .byte)

/-- LDH (base plus ucst5 or offsetR), R292. -/
def execLdh (o : MemForm) (s : State) : Result :=
  issue (.ldh o) s (s.loadLsr o .half true)

/-- LDH (B14 or B15 plus ucst15), R292. -/
def execLdh15 (o : Mem15Form) (s : State) : Result :=
  issue (.ldh15 o) s (s.load15 o .half true)

/-- STH (base plus ucst5 or offsetR), R296. -/
def execSth (o : MemForm) (s : State) : Result :=
  issue (.sth o) s (s.storeLsr o .half)

/-- STH (B14 or B15 plus ucst15), R296. -/
def execSth15 (o : Mem15Form) (s : State) : Result :=
  issue (.sth15 o) s (s.store15 o .half)

/-- LDW (base plus ucst5 or offsetR), R294. -/
def execLdw (o : MemForm) (s : State) : Result :=
  issue (.ldw o) s (s.loadLsr o .word false)

/-- LDW (B14 or B15 plus ucst15), R294. -/
def execLdw15 (o : Mem15Form) (s : State) : Result :=
  issue (.ldw15 o) s (s.load15 o .word false)

/-- STW (base plus ucst5 or offsetR), R297. -/
def execStw (o : MemForm) (s : State) : Result :=
  issue (.stw o) s (s.storeLsr o .word)

/-- STW (B14 or B15 plus ucst15), R297. -/
def execStw15 (o : Mem15Form) (s : State) : Result :=
  issue (.stw15 o) s (s.store15 o .word)

/-- LDDW (base plus ucst5 or offsetR), R298. -/
def execLddw (o : MemForm) (s : State) : Result :=
  issue (.lddw o) s (s.loadLsr o .dword false)

end Sys2Proof.Machine
end

