-- ==== Sys2Proof/Machine/MUnit.lean ====
section
/-! DEFINITION. The multiplies of the .M units (spec/43_m_unit.md R249-R270), one delay slot. The doubled product of SMPY, SMPYH, SMPYHL and
SMPYLH does not fit 32 bits only when it is 2^31 (R267). -/
namespace Sys2Proof.Machine

/-- MPYH (smsb16, xsmsb16, sint), R255. -/
def execMpyh (o : XForm) (s : State) : Result :=
  issue (.mpyh o) s <|
    .next (s.putWord o.side o.dst (trunc 32 (sext (msb16 (s.gpr o.side o.src1)) * sext (msb16 (s.gpr (o.side.via o.x) o.src2)))) mulDelay)

/-- SMPYH (smsb16, xsmsb16, sint), R270. -/
def execSmpyh (o : XForm) (s : State) : Result :=
  issue (.smpyh o) s <|
    .next (s.putSat o.side o.dst (sext (msb16 (s.gpr o.side o.src1)) * sext (msb16 (s.gpr (o.side.via o.x) o.src2)) * 2) mulDelay)

/-- MPYHSU (smsb16, xumsb16, sint), R258. -/
def execMpyhsu (o : XForm) (s : State) : Result :=
  issue (.mpyhsu o) s <|
    .next (s.putWord o.side o.dst (trunc 32 (sext (msb16 (s.gpr o.side o.src1)) * zext (msb16 (s.gpr (o.side.via o.x) o.src2)))) mulDelay)

/-- MPYHUS (umsb16, xsmsb16, sint), R257. -/
def execMpyhus (o : XForm) (s : State) : Result :=
  issue (.mpyhus o) s <|
    .next (s.putWord o.side o.dst (trunc 32 (zext (msb16 (s.gpr o.side o.src1)) * sext (msb16 (s.gpr (o.side.via o.x) o.src2)))) mulDelay)

/-- MPYHU (umsb16, xumsb16, uint), R256. -/
def execMpyhu (o : XForm) (s : State) : Result :=
  issue (.mpyhu o) s <|
    .next (s.putWord o.side o.dst (trunc 32 (zext (msb16 (s.gpr o.side o.src1)) * zext (msb16 (s.gpr (o.side.via o.x) o.src2)))) mulDelay)

/-- MPYHL (smsb16, xslsb16, sint), R259. -/
def execMpyhl (o : XForm) (s : State) : Result :=
  issue (.mpyhl o) s <|
    .next (s.putWord o.side o.dst (trunc 32 (sext (msb16 (s.gpr o.side o.src1)) * sext (lsb16 (s.gpr (o.side.via o.x) o.src2)))) mulDelay)

/-- SMPYHL (smsb16, xslsb16, sint), R268. -/
def execSmpyhl (o : XForm) (s : State) : Result :=
  issue (.smpyhl o) s <|
    .next (s.putSat o.side o.dst (sext (msb16 (s.gpr o.side o.src1)) * sext (lsb16 (s.gpr (o.side.via o.x) o.src2)) * 2) mulDelay)

/-- MPYHSLU (smsb16, xulsb16, sint), R262. -/
def execMpyhslu (o : XForm) (s : State) : Result :=
  issue (.mpyhslu o) s <|
    .next (s.putWord o.side o.dst (trunc 32 (sext (msb16 (s.gpr o.side o.src1)) * zext (lsb16 (s.gpr (o.side.via o.x) o.src2)))) mulDelay)

/-- MPYHULS (umsb16, xslsb16, sint), R261. -/
def execMpyhuls (o : XForm) (s : State) : Result :=
  issue (.mpyhuls o) s <|
    .next (s.putWord o.side o.dst (trunc 32 (zext (msb16 (s.gpr o.side o.src1)) * sext (lsb16 (s.gpr (o.side.via o.x) o.src2)))) mulDelay)

/-- MPYHLU (umsb16, xulsb16, uint), R260. -/
def execMpyhlu (o : XForm) (s : State) : Result :=
  issue (.mpyhlu o) s <|
    .next (s.putWord o.side o.dst (trunc 32 (zext (msb16 (s.gpr o.side o.src1)) * zext (lsb16 (s.gpr (o.side.via o.x) o.src2)))) mulDelay)

/-- MPYLH (slsb16, xsmsb16, sint), R263. -/
def execMpylh (o : XForm) (s : State) : Result :=
  issue (.mpylh o) s <|
    .next (s.putWord o.side o.dst (trunc 32 (sext (lsb16 (s.gpr o.side o.src1)) * sext (msb16 (s.gpr (o.side.via o.x) o.src2)))) mulDelay)

/-- SMPYLH (slsb16, xsmsb16, sint), R269. -/
def execSmpylh (o : XForm) (s : State) : Result :=
  issue (.smpylh o) s <|
    .next (s.putSat o.side o.dst (sext (lsb16 (s.gpr o.side o.src1)) * sext (msb16 (s.gpr (o.side.via o.x) o.src2)) * 2) mulDelay)

/-- MPYLSHU (slsb16, xumsb16, sint), R266. -/
def execMpylshu (o : XForm) (s : State) : Result :=
  issue (.mpylshu o) s <|
    .next (s.putWord o.side o.dst (trunc 32 (sext (lsb16 (s.gpr o.side o.src1)) * zext (msb16 (s.gpr (o.side.via o.x) o.src2)))) mulDelay)

/-- MPYLUHS (ulsb16, xsmsb16, sint), R265. -/
def execMpyluhs (o : XForm) (s : State) : Result :=
  issue (.mpyluhs o) s <|
    .next (s.putWord o.side o.dst (trunc 32 (zext (lsb16 (s.gpr o.side o.src1)) * sext (msb16 (s.gpr (o.side.via o.x) o.src2)))) mulDelay)

/-- MPYLHU (ulsb16, xumsb16, uint), R264. -/
def execMpylhu (o : XForm) (s : State) : Result :=
  issue (.mpylhu o) s <|
    .next (s.putWord o.side o.dst (trunc 32 (zext (lsb16 (s.gpr o.side o.src1)) * zext (msb16 (s.gpr (o.side.via o.x) o.src2)))) mulDelay)

/-- MPY (scst5, xslsb16, sint), R251. -/
def execMpyCst (o : XCstForm) (s : State) : Result :=
  issue (.mpyCst o) s <|
    .next (s.putWord o.side o.dst (trunc 32 (sext o.cst * sext (lsb16 (s.gpr (o.side.via o.x) o.src2)))) mulDelay)

/-- MPY (slsb16, xslsb16, sint), R251. -/
def execMpyReg (o : XForm) (s : State) : Result :=
  issue (.mpyReg o) s <|
    .next (s.putWord o.side o.dst (trunc 32 (sext (lsb16 (s.gpr o.side o.src1)) * sext (lsb16 (s.gpr (o.side.via o.x) o.src2)))) mulDelay)

/-- SMPY (slsb16, xslsb16, sint), R267. -/
def execSmpy (o : XForm) (s : State) : Result :=
  issue (.smpy o) s <|
    .next (s.putSat o.side o.dst (sext (lsb16 (s.gpr o.side o.src1)) * sext (lsb16 (s.gpr (o.side.via o.x) o.src2)) * 2) mulDelay)

/-- MPYSU (slsb16, xulsb16, sint), R254. -/
def execMpysuReg (o : XForm) (s : State) : Result :=
  issue (.mpysuReg o) s <|
    .next (s.putWord o.side o.dst (trunc 32 (sext (lsb16 (s.gpr o.side o.src1)) * zext (lsb16 (s.gpr (o.side.via o.x) o.src2)))) mulDelay)

/-- MPYUS (ulsb16, xslsb16, sint), R253. -/
def execMpyus (o : XForm) (s : State) : Result :=
  issue (.mpyus o) s <|
    .next (s.putWord o.side o.dst (trunc 32 (zext (lsb16 (s.gpr o.side o.src1)) * sext (lsb16 (s.gpr (o.side.via o.x) o.src2)))) mulDelay)

/-- MPYSU (scst5, xulsb16, sint), R254. -/
def execMpysuCst (o : XCstForm) (s : State) : Result :=
  issue (.mpysuCst o) s <|
    .next (s.putWord o.side o.dst (trunc 32 (sext o.cst * zext (lsb16 (s.gpr (o.side.via o.x) o.src2)))) mulDelay)

/-- MPYU (ulsb16, xulsb16, uint), R252. -/
def execMpyu (o : XForm) (s : State) : Result :=
  issue (.mpyu o) s <|
    .next (s.putWord o.side o.dst (trunc 32 (zext (lsb16 (s.gpr o.side o.src1)) * zext (lsb16 (s.gpr (o.side.via o.x) o.src2)))) mulDelay)

end Sys2Proof.Machine
end

