-- ==== Sys2Proof/Machine/SUnit.lean ====
section
/-! DEFINITION. The instructions of the .S units but branches and MVC (spec/42_s_unit.md R208-R234). All have 0 delay slots. -/
namespace Sys2Proof.Machine

/-- ADD2 (sint, xsint, sint), R212. -/
def execAdd2 (o : XForm) (s : State) : Result :=
  issue (.add2 o) s <|
    .next (s.putWord o.side o.dst (halves (· + ·) (s.gpr o.side o.src1) (s.gpr (o.side.via o.x) o.src2)) 0)

/-- ADD (scst5, xsint, sint), R210. -/
def execAddSCst (o : XCstForm) (s : State) : Result :=
  issue (.addSCst o) s <|
    .next (s.putWord o.side o.dst (trunc 32 (sext o.cst + sext (s.gpr (o.side.via o.x) o.src2))) 0)

/-- ADD (sint, xsint, sint), R210. -/
def execAddSReg (o : XForm) (s : State) : Result :=
  issue (.addSReg o) s <|
    .next (s.putWord o.side o.dst (trunc 32 (sext (s.gpr o.side o.src1) + sext (s.gpr (o.side.via o.x) o.src2))) 0)

/-- XOR (scst5, xuint, uint), R234. -/
def execXorSCst (o : XCstForm) (s : State) : Result :=
  issue (.xorSCst o) s (.next (s.putWord o.side o.dst (o.cst.signExtend 32 ^^^ s.gpr (o.side.via o.x) o.src2) 0))

/-- XOR (uint, xuint, uint), R234. -/
def execXorSReg (o : XForm) (s : State) : Result :=
  issue (.xorSReg o) s (.next (s.putWord o.side o.dst (s.gpr o.side o.src1 ^^^ s.gpr (o.side.via o.x) o.src2) 0))

/-- SUB2 (sint, xsint, sint), R233. -/
def execSub2 (o : XForm) (s : State) : Result :=
  issue (.sub2 o) s <|
    .next (s.putWord o.side o.dst (halves (· - ·) (s.gpr o.side o.src1) (s.gpr (o.side.via o.x) o.src2)) 0)

/-- SHL (ucst5, xuint, ulong), R228. -/
def execShlCstWide (o : XCstForm) (s : State) : Result :=
  issue (.shlCstWide o) s <|
    .next (s.putLong o.side o.dst ((s.gpr (o.side.via o.x) o.src2).setWidth 40 <<< o.cst.toNat))

/-- SHL (uint, xuint, ulong), R228. -/
def execShlRegWide (o : XForm) (s : State) : Result :=
  issue (.shlRegWide o) s <|
    .next (s.putLong o.side o.dst ((s.gpr (o.side.via o.x) o.src2).setWidth 40 <<< shiftAmount (s.gpr o.side o.src1)))

/-- SUB (scst5, xsint, sint), R232. -/
def execSubSCst (o : XCstForm) (s : State) : Result :=
  issue (.subSCst o) s <|
    .next (s.putWord o.side o.dst (trunc 32 (sext o.cst - sext (s.gpr (o.side.via o.x) o.src2))) 0)

/-- SUB (sint, xsint, sint), R232. -/
def execSubSReg (o : XForm) (s : State) : Result :=
  issue (.subSReg o) s <|
    .next (s.putWord o.side o.dst (trunc 32 (sext (s.gpr o.side o.src1) - sext (s.gpr (o.side.via o.x) o.src2))) 0)

/-- OR (scst5, xuint, uint), R227. -/
def execOrSCst (o : XCstForm) (s : State) : Result :=
  issue (.orSCst o) s (.next (s.putWord o.side o.dst (o.cst.signExtend 32 ||| s.gpr (o.side.via o.x) o.src2) 0))

/-- OR (uint, xuint, uint), R227. -/
def execOrSReg (o : XForm) (s : State) : Result :=
  issue (.orSReg o) s (.next (s.putWord o.side o.dst (s.gpr o.side o.src1 ||| s.gpr (o.side.via o.x) o.src2) 0))

/-- AND (scst5, xuint, uint), R213. -/
def execAndSCst (o : XCstForm) (s : State) : Result :=
  issue (.andSCst o) s (.next (s.putWord o.side o.dst (o.cst.signExtend 32 &&& s.gpr (o.side.via o.x) o.src2) 0))

/-- AND (uint, xuint, uint), R213. -/
def execAndSReg (o : XForm) (s : State) : Result :=
  issue (.andSReg o) s (.next (s.putWord o.side o.dst (s.gpr o.side o.src1 &&& s.gpr (o.side.via o.x) o.src2) 0))

/-- SSHL (ucst5, xsint, sint), R231. -/
def execSshlCst (o : XCstForm) (s : State) : Result :=
  issue (.sshlCst o) s (.next (s.putSat o.side o.dst (sext (s.gpr (o.side.via o.x) o.src2) * 2 ^ o.cst.toNat) 0))

/-- SSHL (uint, xsint, sint), R231. -/
def execSshlReg (o : XForm) (s : State) : Result :=
  issue (.sshlReg o) s <|
    if 31 < (s.gpr o.side o.src1).toNat then .fault .sshlAmount
    else .next (s.putSat o.side o.dst (sext (s.gpr (o.side.via o.x) o.src2) * 2 ^ (s.gpr o.side o.src1).toNat) 0)

/-- SHRU (ucst5, ulong, ulong), R230. -/
def execShruCstLong (o : CForm) (s : State) : Result :=
  issue (.shruCstLong o) s (.next (s.putLong o.side o.dst (s.gprLong o.side o.src2 >>> o.cst.toNat)))

/-- SHRU (uint, ulong, ulong), R230. -/
def execShruRegLong (o : RForm) (s : State) : Result :=
  issue (.shruRegLong o) s <|
    .next (s.putLong o.side o.dst (s.gprLong o.side o.src2 >>> shiftAmount (s.gpr o.side o.src1)))

/-- SHRU (ucst5, xuint, uint), R230. -/
def execShruCst (o : XCstForm) (s : State) : Result :=
  issue (.shruCst o) s (.next (s.putWord o.side o.dst (s.gpr (o.side.via o.x) o.src2 >>> o.cst.toNat) 0))

/-- SHRU (uint, xuint, uint), R230. -/
def execShruReg (o : XForm) (s : State) : Result :=
  issue (.shruReg o) s <|
    .next (s.putWord o.side o.dst (s.gpr (o.side.via o.x) o.src2 >>> shiftAmount (s.gpr o.side o.src1)) 0)

/-- EXTU (uint, xuint, uint), R220. -/
def execExtuReg (o : XForm) (s : State) : Result :=
  issue (.extuReg o) s <|
    .next (s.putWord o.side o.dst (extractUnsigned (s.gpr (o.side.via o.x) o.src2) (fieldBoundsOf (s.gpr o.side o.src1)).1 (fieldBoundsOf (s.gpr o.side o.src1)).2) 0)

/-- EXT (uint, xsint, sint), R219. -/
def execExtReg (o : XForm) (s : State) : Result :=
  issue (.extReg o) s <|
    .next (s.putWord o.side o.dst (extractSigned (s.gpr (o.side.via o.x) o.src2) (fieldBoundsOf (s.gpr o.side o.src1)).1 (fieldBoundsOf (s.gpr o.side o.src1)).2) 0)

/-- SHL (ucst5, slong, slong), R228. -/
def execShlCstLong (o : CForm) (s : State) : Result :=
  issue (.shlCstLong o) s (.next (s.putLong o.side o.dst (s.gprLong o.side o.src2 <<< o.cst.toNat)))

/-- SHL (uint, slong, slong), R228. -/
def execShlRegLong (o : RForm) (s : State) : Result :=
  issue (.shlRegLong o) s <|
    .next (s.putLong o.side o.dst (s.gprLong o.side o.src2 <<< shiftAmount (s.gpr o.side o.src1)))

/-- SHL (ucst5, xsint, sint), R228. -/
def execShlCst (o : XCstForm) (s : State) : Result :=
  issue (.shlCst o) s (.next (s.putWord o.side o.dst (s.gpr (o.side.via o.x) o.src2 <<< o.cst.toNat) 0))

/-- SHL (uint, xsint, sint), R228. -/
def execShlReg (o : XForm) (s : State) : Result :=
  issue (.shlReg o) s <|
    .next (s.putWord o.side o.dst (s.gpr (o.side.via o.x) o.src2 <<< shiftAmount (s.gpr o.side o.src1)) 0)

/-- SHR (ucst5, slong, slong), R229. -/
def execShrCstLong (o : CForm) (s : State) : Result :=
  issue (.shrCstLong o) s (.next (s.putLong o.side o.dst ((s.gprLong o.side o.src2).sshiftRight o.cst.toNat)))

/-- SHR (uint, slong, slong), R229. -/
def execShrRegLong (o : RForm) (s : State) : Result :=
  issue (.shrRegLong o) s <|
    .next (s.putLong o.side o.dst ((s.gprLong o.side o.src2).sshiftRight (shiftAmount (s.gpr o.side o.src1))))

/-- SHR (ucst5, xsint, sint), R229. -/
def execShrCst (o : XCstForm) (s : State) : Result :=
  issue (.shrCst o) s (.next (s.putWord o.side o.dst ((s.gpr (o.side.via o.x) o.src2).sshiftRight o.cst.toNat) 0))

/-- SHR (uint, xsint, sint), R229. -/
def execShrReg (o : XForm) (s : State) : Result :=
  issue (.shrReg o) s <|
    .next (s.putWord o.side o.dst ((s.gpr (o.side.via o.x) o.src2).sshiftRight (shiftAmount (s.gpr o.side o.src1))) 0)

/-- SET (uint, xuint, uint), R221. -/
def execSetReg (o : XForm) (s : State) : Result :=
  issue (.setReg o) s <|
    if (fieldBoundsOf (s.gpr o.side o.src1)).1 ≤ (fieldBoundsOf (s.gpr o.side o.src1)).2 then
      .next (s.putWord o.side o.dst (setField (s.gpr (o.side.via o.x) o.src2) (fieldBoundsOf (s.gpr o.side o.src1)).1 (fieldBoundsOf (s.gpr o.side o.src1)).2) 0)
    else .fault .fieldBounds

/-- CLR (uint, xuint, uint), R218. -/
def execClrReg (o : XForm) (s : State) : Result :=
  issue (.clrReg o) s <|
    if (fieldBoundsOf (s.gpr o.side o.src1)).1 ≤ (fieldBoundsOf (s.gpr o.side o.src1)).2 then
      .next (s.putWord o.side o.dst (clearField (s.gpr (o.side.via o.x) o.src2) (fieldBoundsOf (s.gpr o.side o.src1)).1 (fieldBoundsOf (s.gpr o.side o.src1)).2) 0)
    else .fault .fieldBounds

/-- ADDK (scst16, dst uint), R211. -/
def execAddk (o : Cst16Form) (s : State) : Result :=
  issue (.addk o) s (.next (s.putWord o.side o.dst (trunc 32 (sext (s.gpr o.side o.dst) + sext o.cst)) 0))

/-- EXTU (src2, csta, cstb, dst (constant form)), R220. -/
def execExtuCst (o : FieldForm) (s : State) : Result :=
  issue (.extuCst o) s <|
    .next (s.putWord o.side o.dst (extractUnsigned (s.gpr o.side o.src2) o.csta.toNat o.cstb.toNat) 0)

/-- EXT (src2, csta, cstb, dst (constant form)), R219. -/
def execExtCst (o : FieldForm) (s : State) : Result :=
  issue (.extCst o) s <|
    .next (s.putWord o.side o.dst (extractSigned (s.gpr o.side o.src2) o.csta.toNat o.cstb.toNat) 0)

/-- SET (src2, csta, cstb, dst (constant form)), R221. -/
def execSetCst (o : FieldForm) (s : State) : Result :=
  issue (.setCst o) s <|
    if o.csta.toNat ≤ o.cstb.toNat then
      .next (s.putWord o.side o.dst (setField (s.gpr o.side o.src2) o.csta.toNat o.cstb.toNat) 0)
    else .fault .fieldBounds

/-- CLR (src2, csta, cstb, dst (constant form)), R218. -/
def execClrCst (o : FieldForm) (s : State) : Result :=
  issue (.clrCst o) s <|
    if o.csta.toNat ≤ o.cstb.toNat then
      .next (s.putWord o.side o.dst (clearField (s.gpr o.side o.src2) o.csta.toNat o.cstb.toNat) 0)
    else .fault .fieldBounds

/-- MVK (cst16, dst), R224. -/
def execMvk (o : Cst16Form) (s : State) : Result :=
  issue (.mvk o) s (.next (s.putWord o.side o.dst (trunc 32 (sext o.cst)) 0))

/-- MVKH (cst16, dst), R225. -/
def execMvkh (o : Cst16Form) (s : State) : Result :=
  issue (.mvkh o) s (.next (s.putWord o.side o.dst (o.cst ++ lsb16 (s.gpr o.side o.dst)) 0))

end Sys2Proof.Machine
end

