-- ==== Sys2Proof/Machine/System.lean ====
section
/-! DEFINITION. Control-register moves, NOP and IDLE (spec/42_s_unit.md R226; spec/40_packets_and_conditions.md R165, R166). -/
namespace Sys2Proof.Machine

/-- The delay slots of a control-register write: 1 for ISR and ICR, else 0 (R226, R410). -/
def ctrlDelay : CtrlDest → Nat
  | .isr => setClearDelay
  | .icr => setClearDelay
  | _ => 0

/-- MVC (control register (number in src2 field 22:18), dst uint), R226. -/
def execMvcRead (o : MvcReadForm) (s : State) : Result :=
  issue (.mvcRead o) s (.next (s.putWord .b o.dst (s.ctrlRead o.cr) 0))

/-- MVC (src2 xuint, control register (number in dst field 27:23)), R226. -/
def execMvcWrite (o : MvcWriteForm) (s : State) : Result :=
  issue (.mvcWrite o) s <|
    match ctrlDest o.cr with
    | some c => .next (s.putCtrl c (s.gpr (Side.b.via o.x) o.src2) (ctrlDelay c))
    | none => .fault .illegalControlRegister

/-- NOP (count 1..8, src field (16:13) = count - 1, bit 16 = 0), R165. -/
def execNop (o : NopForm) (s : State) : Result :=
  issue (.nop o) s (.next (s.requestNop (o.src.toNat + 1)))

/-- NOP (count 9: src field (16:13) = 1000), R165. -/
def execNop9 (o : Nop9Form) (s : State) : Result :=
  issue (.nop9 o) s (.next (s.requestNop 9))

/-- IDLE (none), R166. -/
def execIdle (o : IdleForm) (s : State) : Result :=
  issue (.idle o) s (.next s.requestIdle)

end Sys2Proof.Machine
end

