-- ==== Sys2Proof/Machine/Dispatch.lean ====
section
/-! DEFINITION. The meaning of every instruction: one arm per constructor, each one direct call. A meaning is the E1 phase of
one instruction (spec/40_packets_and_conditions.md R155 step 4; log 8). -/
namespace Sys2Proof.Machine

def exec (i : Instr) (s : State) : Host.Outcome State Fault Refusal :=
  match i with
  | .addLCst o => Sys2Proof.Machine.execAddLCst o s
  | .addLReg o => Sys2Proof.Machine.execAddLReg o s
  | .subLCst o => Sys2Proof.Machine.execSubLCst o s
  | .subLReg o => Sys2Proof.Machine.execSubLReg o s
  | .ssubCst o => Sys2Proof.Machine.execSsubCst o s
  | .ssubReg o => Sys2Proof.Machine.execSsubReg o s
  | .saddCst o => Sys2Proof.Machine.execSaddCst o s
  | .saddReg o => Sys2Proof.Machine.execSaddReg o s
  | .subLRegX1 o => Sys2Proof.Machine.execSubLRegX1 o s
  | .absWord o => Sys2Proof.Machine.execAbsWord o s
  | .ssubRegX1 o => Sys2Proof.Machine.execSsubRegX1 o s
  | .addLCstLong o => Sys2Proof.Machine.execAddLCstLong o s
  | .addLRegLong o => Sys2Proof.Machine.execAddLRegLong o s
  | .addLWide o => Sys2Proof.Machine.execAddLWide o s
  | .subLCstLong o => Sys2Proof.Machine.execSubLCstLong o s
  | .subLWide o => Sys2Proof.Machine.execSubLWide o s
  | .adduRegLong o => Sys2Proof.Machine.execAdduRegLong o s
  | .adduWide o => Sys2Proof.Machine.execAdduWide o s
  | .ssubCstLong o => Sys2Proof.Machine.execSsubCstLong o s
  | .subuWide o => Sys2Proof.Machine.execSubuWide o s
  | .saddCstLong o => Sys2Proof.Machine.execSaddCstLong o s
  | .saddRegLong o => Sys2Proof.Machine.execSaddRegLong o s
  | .subLWideX1 o => Sys2Proof.Machine.execSubLWideX1 o s
  | .absLong o => Sys2Proof.Machine.execAbsLong o s
  | .subuWideX1 o => Sys2Proof.Machine.execSubuWideX1 o s
  | .sat o => Sys2Proof.Machine.execSat o s
  | .cmpgtCstLong o => Sys2Proof.Machine.execCmpgtCstLong o s
  | .cmpgtRegLong o => Sys2Proof.Machine.execCmpgtRegLong o s
  | .cmpgtCst o => Sys2Proof.Machine.execCmpgtCst o s
  | .cmpgtReg o => Sys2Proof.Machine.execCmpgtReg o s
  | .subc o => Sys2Proof.Machine.execSubc o s
  | .cmpgtuCstLong o => Sys2Proof.Machine.execCmpgtuCstLong o s
  | .cmpgtuRegLong o => Sys2Proof.Machine.execCmpgtuRegLong o s
  | .cmpgtuCst o => Sys2Proof.Machine.execCmpgtuCst o s
  | .cmpgtuReg o => Sys2Proof.Machine.execCmpgtuReg o s
  | .cmpeqCstLong o => Sys2Proof.Machine.execCmpeqCstLong o s
  | .cmpeqRegLong o => Sys2Proof.Machine.execCmpeqRegLong o s
  | .cmpeqCst o => Sys2Proof.Machine.execCmpeqCst o s
  | .cmpeqReg o => Sys2Proof.Machine.execCmpeqReg o s
  | .cmpltCstLong o => Sys2Proof.Machine.execCmpltCstLong o s
  | .cmpltRegLong o => Sys2Proof.Machine.execCmpltRegLong o s
  | .cmpltCst o => Sys2Proof.Machine.execCmpltCst o s
  | .cmpltReg o => Sys2Proof.Machine.execCmpltReg o s
  | .cmpltuCstLong o => Sys2Proof.Machine.execCmpltuCstLong o s
  | .cmpltuRegLong o => Sys2Proof.Machine.execCmpltuRegLong o s
  | .cmpltuCst o => Sys2Proof.Machine.execCmpltuCst o s
  | .cmpltuReg o => Sys2Proof.Machine.execCmpltuReg o s
  | .normLong o => Sys2Proof.Machine.execNormLong o s
  | .normWord o => Sys2Proof.Machine.execNormWord o s
  | .lmbdCst o => Sys2Proof.Machine.execLmbdCst o s
  | .lmbdReg o => Sys2Proof.Machine.execLmbdReg o s
  | .xorLCst o => Sys2Proof.Machine.execXorLCst o s
  | .xorLReg o => Sys2Proof.Machine.execXorLReg o s
  | .andLCst o => Sys2Proof.Machine.execAndLCst o s
  | .andLReg o => Sys2Proof.Machine.execAndLReg o s
  | .orLCst o => Sys2Proof.Machine.execOrLCst o s
  | .orLReg o => Sys2Proof.Machine.execOrLReg o s
  | .add2 o => Sys2Proof.Machine.execAdd2 o s
  | .addSCst o => Sys2Proof.Machine.execAddSCst o s
  | .addSReg o => Sys2Proof.Machine.execAddSReg o s
  | .xorSCst o => Sys2Proof.Machine.execXorSCst o s
  | .xorSReg o => Sys2Proof.Machine.execXorSReg o s
  | .sub2 o => Sys2Proof.Machine.execSub2 o s
  | .shlCstWide o => Sys2Proof.Machine.execShlCstWide o s
  | .shlRegWide o => Sys2Proof.Machine.execShlRegWide o s
  | .subSCst o => Sys2Proof.Machine.execSubSCst o s
  | .subSReg o => Sys2Proof.Machine.execSubSReg o s
  | .orSCst o => Sys2Proof.Machine.execOrSCst o s
  | .orSReg o => Sys2Proof.Machine.execOrSReg o s
  | .andSCst o => Sys2Proof.Machine.execAndSCst o s
  | .andSReg o => Sys2Proof.Machine.execAndSReg o s
  | .sshlCst o => Sys2Proof.Machine.execSshlCst o s
  | .sshlReg o => Sys2Proof.Machine.execSshlReg o s
  | .shruCstLong o => Sys2Proof.Machine.execShruCstLong o s
  | .shruRegLong o => Sys2Proof.Machine.execShruRegLong o s
  | .shruCst o => Sys2Proof.Machine.execShruCst o s
  | .shruReg o => Sys2Proof.Machine.execShruReg o s
  | .extuReg o => Sys2Proof.Machine.execExtuReg o s
  | .extReg o => Sys2Proof.Machine.execExtReg o s
  | .shlCstLong o => Sys2Proof.Machine.execShlCstLong o s
  | .shlRegLong o => Sys2Proof.Machine.execShlRegLong o s
  | .shlCst o => Sys2Proof.Machine.execShlCst o s
  | .shlReg o => Sys2Proof.Machine.execShlReg o s
  | .shrCstLong o => Sys2Proof.Machine.execShrCstLong o s
  | .shrRegLong o => Sys2Proof.Machine.execShrRegLong o s
  | .shrCst o => Sys2Proof.Machine.execShrCst o s
  | .shrReg o => Sys2Proof.Machine.execShrReg o s
  | .setReg o => Sys2Proof.Machine.execSetReg o s
  | .clrReg o => Sys2Proof.Machine.execClrReg o s
  | .mpyh o => Sys2Proof.Machine.execMpyh o s
  | .smpyh o => Sys2Proof.Machine.execSmpyh o s
  | .mpyhsu o => Sys2Proof.Machine.execMpyhsu o s
  | .mpyhus o => Sys2Proof.Machine.execMpyhus o s
  | .mpyhu o => Sys2Proof.Machine.execMpyhu o s
  | .mpyhl o => Sys2Proof.Machine.execMpyhl o s
  | .smpyhl o => Sys2Proof.Machine.execSmpyhl o s
  | .mpyhslu o => Sys2Proof.Machine.execMpyhslu o s
  | .mpyhuls o => Sys2Proof.Machine.execMpyhuls o s
  | .mpyhlu o => Sys2Proof.Machine.execMpyhlu o s
  | .mpylh o => Sys2Proof.Machine.execMpylh o s
  | .smpylh o => Sys2Proof.Machine.execSmpylh o s
  | .mpylshu o => Sys2Proof.Machine.execMpylshu o s
  | .mpyluhs o => Sys2Proof.Machine.execMpyluhs o s
  | .mpylhu o => Sys2Proof.Machine.execMpylhu o s
  | .mpyCst o => Sys2Proof.Machine.execMpyCst o s
  | .mpyReg o => Sys2Proof.Machine.execMpyReg o s
  | .smpy o => Sys2Proof.Machine.execSmpy o s
  | .mpysuReg o => Sys2Proof.Machine.execMpysuReg o s
  | .mpyus o => Sys2Proof.Machine.execMpyus o s
  | .mpysuCst o => Sys2Proof.Machine.execMpysuCst o s
  | .mpyu o => Sys2Proof.Machine.execMpyu o s
  | .bReg o => Sys2Proof.Machine.execBReg o s
  | .bIrp o => Sys2Proof.Machine.execBIrp o s
  | .bNrp o => Sys2Proof.Machine.execBNrp o s
  | .mvcRead o => Sys2Proof.Machine.execMvcRead o s
  | .mvcWrite o => Sys2Proof.Machine.execMvcWrite o s
  | .addk o => Sys2Proof.Machine.execAddk o s
  | .extuCst o => Sys2Proof.Machine.execExtuCst o s
  | .extCst o => Sys2Proof.Machine.execExtCst o s
  | .setCst o => Sys2Proof.Machine.execSetCst o s
  | .clrCst o => Sys2Proof.Machine.execClrCst o s
  | .mvk o => Sys2Proof.Machine.execMvk o s
  | .mvkh o => Sys2Proof.Machine.execMvkh o s
  | .bDisp o => Sys2Proof.Machine.execBDisp o s
  | .addDReg o => Sys2Proof.Machine.execAddDReg o s
  | .subDReg o => Sys2Proof.Machine.execSubDReg o s
  | .addDCst o => Sys2Proof.Machine.execAddDCst o s
  | .subDCst o => Sys2Proof.Machine.execSubDCst o s
  | .addabReg o => Sys2Proof.Machine.execAddabReg o s
  | .subabReg o => Sys2Proof.Machine.execSubabReg o s
  | .addabCst o => Sys2Proof.Machine.execAddabCst o s
  | .subabCst o => Sys2Proof.Machine.execSubabCst o s
  | .addahReg o => Sys2Proof.Machine.execAddahReg o s
  | .subahReg o => Sys2Proof.Machine.execSubahReg o s
  | .addahCst o => Sys2Proof.Machine.execAddahCst o s
  | .subahCst o => Sys2Proof.Machine.execSubahCst o s
  | .addawReg o => Sys2Proof.Machine.execAddawReg o s
  | .subawReg o => Sys2Proof.Machine.execSubawReg o s
  | .addawCst o => Sys2Proof.Machine.execAddawCst o s
  | .subawCst o => Sys2Proof.Machine.execSubawCst o s
  | .ldhu o => Sys2Proof.Machine.execLdhu o s
  | .ldhu15 o => Sys2Proof.Machine.execLdhu15 o s
  | .ldbu o => Sys2Proof.Machine.execLdbu o s
  | .ldbu15 o => Sys2Proof.Machine.execLdbu15 o s
  | .ldb o => Sys2Proof.Machine.execLdb o s
  | .ldb15 o => Sys2Proof.Machine.execLdb15 o s
  | .stb o => Sys2Proof.Machine.execStb o s
  | .stb15 o => Sys2Proof.Machine.execStb15 o s
  | .ldh o => Sys2Proof.Machine.execLdh o s
  | .ldh15 o => Sys2Proof.Machine.execLdh15 o s
  | .sth o => Sys2Proof.Machine.execSth o s
  | .sth15 o => Sys2Proof.Machine.execSth15 o s
  | .ldw o => Sys2Proof.Machine.execLdw o s
  | .ldw15 o => Sys2Proof.Machine.execLdw15 o s
  | .stw o => Sys2Proof.Machine.execStw o s
  | .stw15 o => Sys2Proof.Machine.execStw15 o s
  | .lddw o => Sys2Proof.Machine.execLddw o s
  | .nop o => Sys2Proof.Machine.execNop o s
  | .nop9 o => Sys2Proof.Machine.execNop9 o s
  | .idle o => Sys2Proof.Machine.execIdle o s

end Sys2Proof.Machine
end

