-- ==== Sys2Proof/Machine/Fetch.lean ====
section
/-! DEFINITION. Fetching the execute packet at pc (spec/40_packets_and_conditions.md R150-R154; spec/20_memory.md R82, R84, R92). -/
namespace Sys2Proof.Machine

/-- Is the word at an address program memory (R92; log 24)? -/
def State.fetchable (s : State) (a : Nat) : Bool := allKind s.params.memmap .program a 4

/-- The instruction word at an address (R84; log 17). -/
def State.wordAt (s : State) (a : Nat) : Word :=
  wordOfBytes s.params.endian (readByte s.mem a) (readByte s.mem (a + 1)) (readByte s.mem (a + 2)) (readByte s.mem (a + 3))

/-- The address of the fetch packet that holds an address (R32, R150). -/
def fetchPacket (pc : Word) : Word := pc &&& 0xFFFFFFE0

/-- The words from an address up to the first with p = 0, at most `n` of them, decoded (R152, R154).
Each word is fetched and decoded before the next is looked at, so that a reserved word stops with `reservedEncoding` (R128) although
a later word of its packet lies outside program memory (R92): the spec gives no order (log 31, DESIGN CHOICE). -/
def fetchFrom (s : State) (a : Nat) : Nat → Except Fault (List Instr)
  | 0 => .ok []
  | n + 1 =>
    if s.fetchable a then
      let w := s.wordAt a
      match decode w with
      | .error _ => .error .reservedEncoding
      | .ok i =>
        if flag w 0 then
          match fetchFrom s (a + 4) n with
          | .ok is => .ok (i :: is)
          | .error f => .error f
        else .ok [i]
    else .error .stuckFetch

/-- The eighth word of the fetch packet at an address is there and has p = 1 (R153; log 13). -/
def State.crosses (s : State) (packet : Nat) : Bool :=
  s.fetchable (packet + 28) && flag (s.wordAt (packet + 28)) 0

/-- The execute packet that starts at pc (R152-R154). The order of the stops is the model's (log 31, DESIGN CHOICE): misaligned
pc, pc outside program memory, the eighth word of R153, then word by word. -/
def fetch (s : State) : Except Fault (List Instr) :=
  let packet := (fetchPacket s.pc).toNat
  if s.pc.toNat % 4 ≠ 0 then .error .misalignedBranchTarget
  else if !s.fetchable s.pc.toNat then .error .stuckFetch
  else if s.crosses packet then .error .executePacketCrossesFetchPacket
  else fetchFrom s s.pc.toNat ((packet + 32 - s.pc.toNat) / 4)

end Sys2Proof.Machine
end

