-- ==== Sys2Proof/Machine/Resources.lean ====
section
/-! DEFINITION. The constraints on one execute packet (spec/40_packets_and_conditions.md R162). An instruction counts whether its
condition holds or not (R161). -/
namespace Sys2Proof.Machine

/-- How many elements of a list have a property. -/
def count {α : Type} (p : α → Bool) (l : List α) : Nat := (l.filter p).length

/-- The registers an instruction reads, each once for each operand; a long counts for both of its pair (log 21). -/
def Demand.readRegs (d : Demand) : List (Side × RegNum) := d.reads.flatMap RegUse.regs

/-- Item 1: no two instructions use the same functional unit. -/
def unitsOk : List Demand → Bool
  | [] => true
  | d :: ds => (d.unit.isNone || ds.all fun e => d.unit != e.unit) && unitsOk ds

/-- Item 2: at most one operand through 1X and at most one through 2X. -/
def crossOk (ds : List Demand) : Bool :=
  [Side.a, Side.b].all fun s => decide (count (fun d => d.cross == some s) ds ≤ 1)

/-- Item 3: two loads or stores have data registers in different files. -/
def dataOk (ds : List Demand) : Bool :=
  [Side.a, Side.b].all fun s => decide (count (fun d => d.data.any fun t => t.side == s) ds ≤ 1)

/-- A long operand on a side. -/
def longOn (s : Side) (l : List RegUse) : Bool := l.any fun u => u.side == s && u.size == .long

/-- Item 4: on each side at most one long result and at most one long source, and no long source beside a store of that side. -/
def longOk (ds : List Demand) : Bool :=
  [Side.a, Side.b].all fun s =>
    decide (count (fun d => longOn s d.writes) ds ≤ 1) && decide (count (fun d => longOn s d.reads) ds ≤ 1) &&
      !(ds.any (fun d => longOn s d.reads) && ds.any fun d => d.data.any fun t => t.side == s && t.store)

/-- Item 5: no register is read more than four times; conditions are not counted. -/
def readsOk (ds : List Demand) : Bool :=
  let rs := ds.flatMap Demand.readRegs
  rs.all fun r => decide (rs.count r ≤ 4)

/-- Items 1 to 5. -/
def resourcesOk (ep : List Instr) : Bool :=
  let ds := ep.map Instr.demand
  unitsOk ds && crossOk ds && dataOk ds && longOk ds && readsOk ds

/-! ### Item 6 -/

/-- The registers an instruction writes, each with the delay slots of the write (R157): one for a multiply, four for the data of
a load, which stands last among its writes, none for every other result and for the base register of a load or store. -/
def landings (d : Demand) : List (Nat × Side × RegNum) :=
  let after := fun (n : Nat) (us : List RegUse) => (us.flatMap RegUse.regs).map fun r => (n, r)
  match d.unit, d.data with
  | some (.m, _), _ => after mulDelay d.writes
  | _, some ⟨_, false⟩ => after 0 d.writes.dropLast ++ after loadDelay d.writes.getLast?.toList
  | _, _ => after 0 d.writes

/-- No state makes both conditions true: they test one register, one for zero and one for not zero (R160). -/
def excludes : Cond → Cond → Bool
  | .ifZero r, .ifNonzero q => r == q
  | .ifNonzero r, .ifZero q => r == q
  | _, _ => false

/-- Two instructions whose conditions can both be true write one register in one cycle. -/
def writesMeet (d e : Demand) : Bool := !excludes d.cond e.cond && (landings d).any fun x => (landings e).contains x

/-- Item 6, as far as it stops a packet before E1: where the conditions of such a pair both hold, both writes are made, and the
stop is `writeConflict` when they land (R155 step 5, R157, vector K1; log 12). -/
def sharedWritesOk (s : State) : List Demand → Bool
  | [] => true
  | d :: ds =>
    ds.all (fun e => !writesMeet d e || (condHolds s d.cond && condHolds s e.cond)) && sharedWritesOk s ds

/-- The check of R155 step 3. -/
def packetOk (s : State) (ep : List Instr) : Bool := resourcesOk ep && sharedWritesOk s (ep.map Instr.demand)

end Sys2Proof.Machine
end

