-- ==== Sys2Proof/Machine/Cycle.lean ====
section
/-! DEFINITION. One CPU cycle (spec/40_packets_and_conditions.md R155, steps 1 to 7). -/
namespace Sys2Proof.Machine

/-- The environment does nothing: no reset, no request, nothing held back (log 6). -/
def EnvInput.quiet : EnvInput := ⟨false, 0, false⟩

/-- The environment's input for this cycle; when the list is used up, the quiet one (R343; log 6). -/
def State.input (s : State) : EnvInput := s.env.headD EnvInput.quiet

/-- The state with that input used. -/
def State.advanceEnv (s : State) : State := { s with env := s.env.tail }

/-- E1 of the instructions of a packet. Each reads the start-of-cycle registers, which no meaning changes (R155 step 4, R156).
Where several of them fault, the first in the order of the words is answered (log 32, DESIGN CHOICE). -/
def execAll : List Instr → State → Result
  | [], s => .next s
  | i :: is, s => andThen (exec i s) (execAll is)

/-- R155 step 7: `branched` says that the packet held a branch instruction. -/
def closeCycle (branched : Bool) (s : State) : State :=
  { s with flight := { s.flight with
      nopcnt := s.flight.nopcnt + s.flight.nopreq
      nopreq := 0
      idle := s.flight.idle || s.flight.idlereq
      idlereq := false
      bshadow := if branched then 5 else s.flight.bshadow - 1 } }

/-- R155 steps 5 to 7, with the memory phase before them (R95): `next` is the address that follows the packet. -/
def endOfCycle (requests next : Word) (branched : Bool) (s : State) : Result :=
  andThen (memPhase s) fun t =>
    andThen (landPhase t requests) fun u =>
      andThen (branchPhase u next) fun v => .next (closeCycle branched v)

/-- R155 steps 3 to 7 for the execute packet `ep` at pc. A resource conflict stops it before any fault of an instruction
(log 32). -/
def runPacket (requests : Word) (ep : List Instr) (s : State) : Result :=
  if packetOk s ep then
    andThen (execAll ep { s with pce1 := fetchPacket s.pc })
      (endOfCycle requests (s.pc + BitVec.ofNat 32 (4 * ep.length)) (ep.any fun i => i.demand.branch))
  else .fault .resourceConflict

/-- R155 steps 2 to 7, when no interrupt is taken: an idle cycle, a cycle of a multi-cycle NOP, or the packet at pc. -/
def executeCycle (requests : Word) (s : State) : Result :=
  if s.flight.idle then endOfCycle requests s.pc false s
  else if s.flight.nopcnt ≠ 0 then
    endOfCycle requests s.pc false { s with flight := { s.flight with nopcnt := s.flight.nopcnt - 1 } }
  else
    match fetch s with
    | .error f => .fault f
    | .ok ep => runPacket requests ep s

/-- One cycle (R155). The environment may assert reset (R391), raise requests (R343) and hold an interrupt back (R350). -/
def cycle (s : State) : Result :=
  let e := s.input
  if e.reset then .next (resetEntry s.advanceEnv)
  else
    let t := raiseFlags s.advanceEnv e.requests
    match readyInterrupt t with
    | some n => if e.hold then executeCycle e.requests t else takeInterrupt n e.requests t
    | none => executeCycle e.requests t

/-- The state with an instruction word where the next fetch reads, and nothing that keeps the fetch from happening (log 18). -/
def placeWord (s : State) (w : Word) : State :=
  let e := s.params.endian
  let a := s.pc.toNat
  { s with
    mem := writeBytes s.mem a [byteOfWord e w 0, byteOfWord e w 1, byteOfWord e w 2, byteOfWord e w 3]
    flight := { s.flight with nopcnt := 0, idle := false } }

end Sys2Proof.Machine
end

