-- ==== Sys2Proof/Machine/Step.lean ====
section
/-! DEFINITION. The step of the machine: one CPU cycle (spec/40_packets_and_conditions.md R155). -/
namespace Sys2Proof.Machine

/-- One step is one cycle (R155; log 8). -/
def step (s : State) : Host.Outcome State Fault Refusal := cycle s

/-- The state with an instruction of the opcode table stored where `step` fetches next (log 18). -/
def State.withFetchWord (s : State) (nbits w : Nat) : State := placeWord s (BitVec.ofNat 32 (w % 2 ^ nbits))

end Sys2Proof.Machine
end

