-- ==== Sys2Proof/WellFormed.lean ====
section
/-! DEFINITION. Well-formed instructions: those that have a meaning on a VARIANT. Each conjunct is a check of
Machine/Legality.lean and the exact complement of one fault of the machine (Machine/Ops.lean, `illegality`). -/
namespace Sys2Proof

/-- `i` is an instruction of the VARIANT `v`, with operands it has (R21, R36, R112, R128). -/
def wf (v : Variant) (i : Instr) : Bool :=
  condExists v i && cstFits v i && dwordExists v i && dwordEven i && regsExist v i && pairsEven i && ctrlLegal v i

end Sys2Proof
end

