-- ==== Sys2Proof/Safety.lean ====
section
/-! DEFINITION. What claims about runs can speak of: a run that is over (spec/40_packets_and_conditions.md R167), the states a
run reaches, a state that stops. -/
namespace Sys2Proof.Machine

/-- A run is over: idle, nothing in flight, and no interrupt can be taken (R167). `nmiSource` says that there is an NMI source. -/
def runOver (nmiSource : Bool) (s : State) : Bool :=
  s.flight.idle && s.flight.drained && s.flight.pb.isEmpty
    && (!s.ctrl.gie || !s.ctrl.nmie || decide (s.ctrl.ier.extractLsb' 4 12 = 0))
    && (!s.ctrl.nmie || !nmiSource)

/-! ### The vocabulary of statements about one instruction -/

/-- The instruction is one of the VARIANT and its condition holds (R161): when it executes. -/
abbrev ready (s : State) (i : Instr) : Prop :=
  wf s.params.variant i = true ∧ condHolds s i.demand.cond = true

/-- The state after a 32-bit saturating result `x` with `d` delay slots: the result that fits, or the nearest limit and SAT
one cycle later (R192, R409). -/
def satState (s : State) (side : Side) (dst : RegNum) (x : Int) (d : Nat) : State :=
  if 2 ^ 31 - 1 < x then (s.putWord side dst 0x7FFFFFFF d).pendSat d
  else if x < -2 ^ 31 then (s.putWord side dst 0x80000000 d).pendSat d
  else s.putWord side dst (BitVec.ofInt 32 x) d

/-- The same for a 40-bit result, which has no delay slot. -/
def satStateLong (s : State) (side : Side) (dst : RegNum) (x : Int) : State :=
  if 2 ^ 39 - 1 < x then (s.putLong side dst 0x7FFFFFFFFF).pendSat 0
  else if x < -2 ^ 39 then (s.putLong side dst 0x8000000000).pendSat 0
  else s.putLong side dst (BitVec.ofInt 40 x)

/-- The AMR mode number of a register: bits 2(r-4)+1 and 2(r-4) for A4-A7, eight bits higher for B4-B7, else 0 (R30, R38). -/
def amrMode (amr : Word) (side : Side) (r : RegNum) : Nat :=
  if 4 ≤ r.toNat ∧ r.toNat ≤ 7 then
    amr.toNat / 2 ^ (2 * (r.toNat - 4) + (if side = .b then 8 else 0)) % 4
  else 0

/-- The block-size exponent N that a mode number selects: BK0 or BK1 (R38, R39). -/
def blockExponent (amr : Word) (mode : Nat) : Nat :=
  if mode = 1 then amr.toNat / 2 ^ 16 % 32 else amr.toNat / 2 ^ 21 % 32

/-- `w` is the base value `v` plus or minus `off` in the addressing of the base register (R283): linear, or circular, where the
bits above N are the base's and the others are those of the sum or difference. -/
def isAddress (amr : Word) (side : Side) (r : RegNum) (v off : Word) (add : Bool) (w : Word) : Prop :=
  let sum := if add then v + off else v - off
  let mode := amrMode amr side r
  (mode = 0 → w = sum) ∧
  (mode = 1 ∨ mode = 2 → ∀ j < 32, w.getLsbD j = if j ≤ blockExponent amr mode then sum.getLsbD j else v.getLsbD j)

/-- An instruction that writes the word `v` with `d` delay slots and does nothing else. -/
abbrev writesWord (s : State) (i : Instr) (side : Side) (dst : RegNum) (v : Word) (d : Nat) : Prop :=
  ready s i → exec i s = .next (s.putWord side dst v d)

/-- An instruction that writes the long `v` in its own cycle and does nothing else. -/
abbrev writesLong (s : State) (i : Instr) (side : Side) (dst : RegNum) (v : Long) : Prop :=
  ready s i → exec i s = .next (s.putLong side dst v)

/-- An instruction that writes the number `x` saturated to 32 bits, with `d` delay slots. -/
abbrev writesSat (s : State) (i : Instr) (side : Side) (dst : RegNum) (x : Int) (d : Nat) : Prop :=
  ready s i → exec i s = .next (satState s side dst x d)

/-- An instruction that writes the number `x` saturated to 40 bits. -/
abbrev writesSatLong (s : State) (i : Instr) (side : Side) (dst : RegNum) (x : Int) : Prop :=
  ready s i → exec i s = .next (satStateLong s side dst x)

/-- The src1 operand read from the instruction's own file. -/
abbrev own1 (s : State) (o : XForm) : Word := s.gpr o.side o.src1
/-- The src1 operand read through the cross path when `x` is set (R113). -/
abbrev cross1 (s : State) (o : XForm) : Word := s.gpr (if o.x then o.side.other else o.side) o.src1
/-- The src2 operand read through the cross path when `x` is set (R113). -/
abbrev cross2 (s : State) (o : XForm) : Word := s.gpr (if o.x then o.side.other else o.side) o.src2
/-- The src2 operand of a constant form, read through the cross path when `x` is set (R113). -/
abbrev crossC (s : State) (o : XCstForm) : Word := s.gpr (if o.x then o.side.other else o.side) o.src2

/-- The number of a truth value in a register (R184). -/
abbrev bitWord (b : Bool) : Word := if b then 1 else 0

/-- `v` is `b` shifted left by `n`, in `w` bits. -/
def isShl {w : Nat} (b : BitVec w) (n : Nat) (v : BitVec w) : Prop :=
  ∀ j < w, v.getLsbD j = (decide (n ≤ j) && b.getLsbD (j - n))
/-- `v` is `b` shifted right by `n`, zeros entering. -/
def isShru {w : Nat} (b : BitVec w) (n : Nat) (v : BitVec w) : Prop :=
  ∀ j < w, v.getLsbD j = (decide (j + n < w) && b.getLsbD (j + n))
/-- `v` is `b` shifted right by `n`, copies of the sign bit entering. -/
def isShr {w : Nat} (b : BitVec w) (n : Nat) (v : BitVec w) : Prop :=
  ∀ j < w, v.getLsbD j = b.getLsbD (min (j + n) (w - 1))
/-- The register amount of a shift: the six low bits of src1 (R222). -/
abbrev amount (a : Word) : Nat := a.toNat % 64

/-- The address computation of ADDAB to SUBAW: reserved AMR mode, or the sum or difference written (R283, R286, R287). -/
def computesAddress (s : State) (i : Instr) (side : Side) (base dst : RegNum) (off : Word) (add : Bool) : Prop :=
  ready s i →
    (amrMode s.ctrl.amr side base = 3 → exec i s = .fault .reservedAmrMode) ∧
    (amrMode s.ctrl.amr side base ≠ 3 → ∃ w, isAddress s.ctrl.amr side base (s.gpr side base) off add w ∧
      exec i s = .next (s.putWord side dst w 0))

/-- The scaled offset of a format LSR access of `bytes` bytes (R282). -/
def scaledOffset (s : State) (o : MemForm) (bytes : Nat) : Word :=
  BitVec.ofNat 32 bytes * (match o.mode.offset with | .cst c => c.setWidth 32 | .reg r => s.gpr o.y r)

/-- The address a format LSR access uses, when `w` is base plus or minus offset (R282). -/
def lsrUsed (s : State) (o : MemForm) (w : Word) : Word := if o.mode.update = .post then s.gpr o.y o.base else w

/-- The state with the base register's update in flight (R282). -/
def lsrUpdated (s : State) (o : MemForm) (w : Word) : State :=
  if o.mode.update = .none then s else s.putWord o.y o.base w 0

/-- E1 of a format LSR access: reserved AMR mode, misaligned address, or the base update and the access (R85, R283, R288). -/
def accessesLsr (s : State) (i : Instr) (o : MemForm) (bytes : Nat) (access : Word → State → State) : Prop :=
  ready s i →
    (amrMode s.ctrl.amr o.y o.base = 3 → exec i s = .fault .reservedAmrMode) ∧
    ∀ w, amrMode s.ctrl.amr o.y o.base ≠ 3 →
      isAddress s.ctrl.amr o.y o.base (s.gpr o.y o.base) (scaledOffset s o bytes) o.mode.add w →
      ((lsrUsed s o w).toNat % bytes = 0 → exec i s = .next (access (lsrUsed s o w) (lsrUpdated s o w))) ∧
      ((lsrUsed s o w).toNat % bytes ≠ 0 → exec i s = .fault .misalignedAccess)

/-- The address of a format LS15 access of `bytes` bytes: B14 or B15 plus the scaled constant, always linear (R282). -/
def address15 (s : State) (o : Mem15Form) (bytes : Nat) : Word :=
  s.gpr .b (if o.y then 15 else 14) + BitVec.ofNat 32 bytes * o.off.setWidth 32

/-- E1 of a format LS15 access: misaligned address, or the access (R85, R282, R288). -/
def accesses15 (s : State) (i : Instr) (o : Mem15Form) (bytes : Nat) (access : Word → State → State) : Prop :=
  ready s i →
    ((address15 s o bytes).toNat % bytes = 0 → exec i s = .next (access (address15 s o bytes) s)) ∧
    ((address15 s o bytes).toNat % bytes ≠ 0 → exec i s = .fault .misalignedAccess)

/-- The instructions that can set SAT (R37). -/
def setsSat : Instr → Bool
  | .ssubCst _ | .ssubReg _ | .ssubRegX1 _ | .ssubCstLong _ | .saddCst _ | .saddReg _ | .saddRegLong _ | .saddCstLong _ => true
  | .sat _ | .sshlCst _ | .sshlReg _ | .smpy _ | .smpyh _ | .smpyhl _ | .smpylh _ => true
  | _ => false

/-- A pending write lands in a register that the instruction names as a destination, or, for MVC, in a control register. -/
def isDestination (i : Instr) (t : Target) : Prop :=
  (∃ u ∈ i.demand.writes, ∃ r ∈ u.regs, t = .gpr r.1 r.2) ∨ (∃ o c, i = .mvcWrite o ∧ t = .ctrl c)

/-- What E1 of one instruction adds to what is in flight (R155 step 4). -/
structure Effects where
  writes : List Write
  branches : List Branch
  loads : List Load
  stores : List Store
  sats : List Nat
  nop : Nat
  idle : Bool

/-- The state with those effects in flight, and nothing else changed. -/
def State.withEffects (s : State) (e : Effects) : State :=
  { s with flight := { s.flight with
      pw := s.flight.pw ++ e.writes, pb := s.flight.pb ++ e.branches, pmLoads := s.flight.pmLoads ++ e.loads
      pmStores := s.flight.pmStores ++ e.stores, psat := s.flight.psat ++ e.sats
      nopreq := max s.flight.nopreq e.nop, idlereq := s.flight.idlereq || e.idle } }

/-- The effects are of the kinds that the instruction may have: each write in a destination of it, each entry of another
list only from an instruction that branches, loads, stores, can saturate, or is NOP or IDLE. -/
def Effects.belongTo (e : Effects) (i : Instr) : Prop :=
  (∀ w ∈ e.writes, isDestination i w.target) ∧ (e.branches ≠ [] → i.demand.branch = true) ∧
  (e.loads ≠ [] → ∃ d, i.demand.data = some d ∧ d.store = false) ∧
  (e.stores ≠ [] → ∃ d, i.demand.data = some d ∧ d.store = true) ∧
  (e.sats ≠ [] → setsSat i = true) ∧ (e.nop ≠ 0 → ∃ o, i = .nop o ∨ ∃ q, i = .nop9 q) ∧ (e.idle = true → ∃ o, i = .idle o)

/-- Nothing is in flight, and the machine is at a packet: the state between two packets when no delay slot is open. -/
def State.settled (s : State) : Prop :=
  s.flight.pw = [] ∧ s.flight.pb = [] ∧ s.flight.pmLoads = [] ∧ s.flight.pmStores = [] ∧ s.flight.psat = [] ∧
  s.flight.nopcnt = 0 ∧ s.flight.nopreq = 0 ∧ s.flight.idle = false ∧ s.flight.idlereq = false

/-- Neither reset nor an interrupt is taken in this step (R155 step 1, R350). -/
def State.undisturbed (s : State) : Prop :=
  s.input.reset = false ∧
  (readyInterrupt (raiseFlags s.advanceEnv s.input.requests) = none ∨ s.input.hold = true)

/-- The machine is idle with no environment input left and NMIE clear, so that nothing but what is in flight happens. -/
def State.waiting (s : State) : Prop :=
  s.env = [] ∧ s.ctrl.nmie = false ∧ s.flight.idle = true

/-! ### What is in flight -/

/-- A load will write a register: its own, or for LDDW the odd one after it too (R298). -/
def Load.lands (l : Load) (side : Side) (r : RegNum) : Prop :=
  l.side = side ∧ (r = l.dst ∨ (l.size = .dword ∧ r = l.dst + 1))

/-- A store writes a byte. -/
def Store.covers (u : Store) (b : Nat) : Prop := u.addr.toNat ≤ b ∧ b < u.addr.toNat + u.size.bytes

/-! ### Invariants -/

/-- Memory has its canonical form, and every pending store is aligned (R85). -/
def memoryInv (s : State) : Prop :=
  s.mem.wf = true ∧ ∀ t ∈ s.flight.pmStores, aligned t.size t.addr = true

/-- pc and the targets of pending branches are multiples of 4, PCE1 of 32 (R32, R33, R86). -/
def fetchInv (s : State) : Prop :=
  s.pc.toNat % 4 = 0 ∧ s.pce1.toNat % 32 = 0 ∧ ∀ b ∈ s.flight.pb, b.target.toNat % 4 = 0

/-- The reserved bits of the control registers read as the spec says, and CSR shows the parameters (R37, R38, R41, R44, R50). -/
def controlInv (s : State) : Prop :=
  s.ctrl.amr &&& 0xFC000000 = 0 ∧ s.ctrl.csr &&& 0xFFFF0100 = csrReset s.params ∧
  s.ctrl.ifr &&& 0xFFFF000D = 0 ∧ s.ctrl.ier &&& 0xFFFF000D = 1 ∧
  s.ctrl.fadcr &&& 0xF800F800 = 0 ∧ s.ctrl.faucr &&& 0xF800F800 = 0 ∧ s.ctrl.fmcr &&& 0xF800F800 = 0

/-- Every pending branch lands before the branch shadow ends, and the shadow is at most 5 (R54, R350). -/
def shadowInv (s : State) : Prop :=
  s.flight.bshadow ≤ 5 ∧ ∀ b ∈ s.flight.pb, b.left < s.flight.bshadow

/-! ### Runs -/

/-- The states that `step` can reach from a state. -/
inductive Reaches (s : State) : State → Prop where
  | refl : Reaches s s
  | step {t u : State} : Reaches s t → step t = .next u → Reaches s u

/-- The step from `s` stops with a fault: the machine has no step there that the spec defines. -/
def stops (s : State) : Prop := ∃ f, step s = .fault f

end Sys2Proof.Machine
end

