-- ==== Sys2Proof/Table.lean ====
section
/-! DEFINITION. The mask and the match of each row of spec/opcode_table.json: the bits that the row fixes, for claims about the decoder
that do not go through it. -/
namespace Sys2Proof

/-- The mask and the match of the row an instruction belongs to. -/
def Instr.tableRow : Instr → Word × Word
  | .addLCst _ => (0x00000FFC, 0x00000058)
  | .addLReg _ => (0x00000FFC, 0x00000078)
  | .subLCst _ => (0x00000FFC, 0x000000D8)
  | .subLReg _ => (0x00000FFC, 0x000000F8)
  | .ssubCst _ => (0x00000FFC, 0x000001D8)
  | .ssubReg _ => (0x00000FFC, 0x000001F8)
  | .saddCst _ => (0x00000FFC, 0x00000258)
  | .saddReg _ => (0x00000FFC, 0x00000278)
  | .subLRegX1 _ => (0x00000FFC, 0x000002F8)
  | .absWord _ => (0x0003EFFC, 0x00000358)
  | .ssubRegX1 _ => (0x00000FFC, 0x000003F8)
  | .addLCstLong _ => (0x00001FFC, 0x00000418)
  | .addLRegLong _ => (0x00000FFC, 0x00000438)
  | .addLWide _ => (0x00000FFC, 0x00000478)
  | .subLCstLong _ => (0x00001FFC, 0x00000498)
  | .subLWide _ => (0x00000FFC, 0x000004F8)
  | .adduRegLong _ => (0x00000FFC, 0x00000538)
  | .adduWide _ => (0x00000FFC, 0x00000578)
  | .ssubCstLong _ => (0x00001FFC, 0x00000598)
  | .subuWide _ => (0x00000FFC, 0x000005F8)
  | .saddCstLong _ => (0x00001FFC, 0x00000618)
  | .saddRegLong _ => (0x00000FFC, 0x00000638)
  | .subLWideX1 _ => (0x00000FFC, 0x000006F8)
  | .absLong _ => (0x0003FFFC, 0x00000718)
  | .subuWideX1 _ => (0x00000FFC, 0x000007F8)
  | .sat _ => (0x0003FFFC, 0x00000818)
  | .cmpgtCstLong _ => (0x00001FFC, 0x00000898)
  | .cmpgtRegLong _ => (0x00000FFC, 0x000008B8)
  | .cmpgtCst _ => (0x00000FFC, 0x000008D8)
  | .cmpgtReg _ => (0x00000FFC, 0x000008F8)
  | .subc _ => (0x00000FFC, 0x00000978)
  | .cmpgtuCstLong _ => (0x00001FFC, 0x00000998)
  | .cmpgtuRegLong _ => (0x00000FFC, 0x000009B8)
  | .cmpgtuCst _ => (0x00000FFC, 0x000009D8)
  | .cmpgtuReg _ => (0x00000FFC, 0x000009F8)
  | .cmpeqCstLong _ => (0x00001FFC, 0x00000A18)
  | .cmpeqRegLong _ => (0x00000FFC, 0x00000A38)
  | .cmpeqCst _ => (0x00000FFC, 0x00000A58)
  | .cmpeqReg _ => (0x00000FFC, 0x00000A78)
  | .cmpltCstLong _ => (0x00001FFC, 0x00000A98)
  | .cmpltRegLong _ => (0x00000FFC, 0x00000AB8)
  | .cmpltCst _ => (0x00000FFC, 0x00000AD8)
  | .cmpltReg _ => (0x00000FFC, 0x00000AF8)
  | .cmpltuCstLong _ => (0x00001FFC, 0x00000B98)
  | .cmpltuRegLong _ => (0x00000FFC, 0x00000BB8)
  | .cmpltuCst _ => (0x00000FFC, 0x00000BD8)
  | .cmpltuReg _ => (0x00000FFC, 0x00000BF8)
  | .normLong _ => (0x0003FFFC, 0x00000C18)
  | .normWord _ => (0x0003EFFC, 0x00000C78)
  | .lmbdCst _ => (0x00000FFC, 0x00000D58)
  | .lmbdReg _ => (0x00000FFC, 0x00000D78)
  | .xorLCst _ => (0x00000FFC, 0x00000DD8)
  | .xorLReg _ => (0x00000FFC, 0x00000DF8)
  | .andLCst _ => (0x00000FFC, 0x00000F58)
  | .andLReg _ => (0x00000FFC, 0x00000F78)
  | .orLCst _ => (0x00000FFC, 0x00000FD8)
  | .orLReg _ => (0x00000FFC, 0x00000FF8)
  | .add2 _ => (0x00000FFC, 0x00000060)
  | .addSCst _ => (0x00000FFC, 0x000001A0)
  | .addSReg _ => (0x00000FFC, 0x000001E0)
  | .xorSCst _ => (0x00000FFC, 0x000002A0)
  | .xorSReg _ => (0x00000FFC, 0x000002E0)
  | .sub2 _ => (0x00000FFC, 0x00000460)
  | .shlCstWide _ => (0x00000FFC, 0x000004A0)
  | .shlRegWide _ => (0x00000FFC, 0x000004E0)
  | .subSCst _ => (0x00000FFC, 0x000005A0)
  | .subSReg _ => (0x00000FFC, 0x000005E0)
  | .orSCst _ => (0x00000FFC, 0x000006A0)
  | .orSReg _ => (0x00000FFC, 0x000006E0)
  | .andSCst _ => (0x00000FFC, 0x000007A0)
  | .andSReg _ => (0x00000FFC, 0x000007E0)
  | .sshlCst _ => (0x00000FFC, 0x000008A0)
  | .sshlReg _ => (0x00000FFC, 0x000008E0)
  | .shruCstLong _ => (0x00001FFC, 0x00000920)
  | .shruRegLong _ => (0x00001FFC, 0x00000960)
  | .shruCst _ => (0x00000FFC, 0x000009A0)
  | .shruReg _ => (0x00000FFC, 0x000009E0)
  | .extuReg _ => (0x00000FFC, 0x00000AE0)
  | .extReg _ => (0x00000FFC, 0x00000BE0)
  | .shlCstLong _ => (0x00001FFC, 0x00000C20)
  | .shlRegLong _ => (0x00001FFC, 0x00000C60)
  | .shlCst _ => (0x00000FFC, 0x00000CA0)
  | .shlReg _ => (0x00000FFC, 0x00000CE0)
  | .shrCstLong _ => (0x00001FFC, 0x00000D20)
  | .shrRegLong _ => (0x00001FFC, 0x00000D60)
  | .shrCst _ => (0x00000FFC, 0x00000DA0)
  | .shrReg _ => (0x00000FFC, 0x00000DE0)
  | .setReg _ => (0x00000FFC, 0x00000EE0)
  | .clrReg _ => (0x00000FFC, 0x00000FE0)
  | .mpyh _ => (0x00000FFC, 0x00000080)
  | .smpyh _ => (0x00000FFC, 0x00000100)
  | .mpyhsu _ => (0x00000FFC, 0x00000180)
  | .mpyhus _ => (0x00000FFC, 0x00000280)
  | .mpyhu _ => (0x00000FFC, 0x00000380)
  | .mpyhl _ => (0x00000FFC, 0x00000480)
  | .smpyhl _ => (0x00000FFC, 0x00000500)
  | .mpyhslu _ => (0x00000FFC, 0x00000580)
  | .mpyhuls _ => (0x00000FFC, 0x00000680)
  | .mpyhlu _ => (0x00000FFC, 0x00000780)
  | .mpylh _ => (0x00000FFC, 0x00000880)
  | .smpylh _ => (0x00000FFC, 0x00000900)
  | .mpylshu _ => (0x00000FFC, 0x00000980)
  | .mpyluhs _ => (0x00000FFC, 0x00000A80)
  | .mpylhu _ => (0x00000FFC, 0x00000B80)
  | .mpyCst _ => (0x00000FFC, 0x00000C00)
  | .mpyReg _ => (0x00000FFC, 0x00000C80)
  | .smpy _ => (0x00000FFC, 0x00000D00)
  | .mpysuReg _ => (0x00000FFC, 0x00000D80)
  | .mpyus _ => (0x00000FFC, 0x00000E80)
  | .mpysuCst _ => (0x00000FFC, 0x00000F00)
  | .mpyu _ => (0x00000FFC, 0x00000F80)
  | .bReg _ => (0x0F83EFFE, 0x00000362)
  | .bIrp _ => (0x0FFFFFFE, 0x001800E2)
  | .bNrp _ => (0x0FFFFFFE, 0x001C00E2)
  | .mvcRead _ => (0x0003FFFE, 0x000003E2)
  | .mvcWrite _ => (0x0003EFFE, 0x000003A2)
  | .addk _ => (0x0000007C, 0x00000050)
  | .extuCst _ => (0x000000FC, 0x00000008)
  | .extCst _ => (0x000000FC, 0x00000048)
  | .setCst _ => (0x000000FC, 0x00000088)
  | .clrCst _ => (0x000000FC, 0x000000C8)
  | .mvk _ => (0x0000007C, 0x00000028)
  | .mvkh _ => (0x0000007C, 0x00000068)
  | .bDisp _ => (0x0000007C, 0x00000010)
  | .addDReg _ => (0x00001FFC, 0x00000840)
  | .subDReg _ => (0x00001FFC, 0x000008C0)
  | .addDCst _ => (0x00001FFC, 0x00000940)
  | .subDCst _ => (0x00001FFC, 0x000009C0)
  | .addabReg _ => (0x00001FFC, 0x00001840)
  | .subabReg _ => (0x00001FFC, 0x000018C0)
  | .addabCst _ => (0x00001FFC, 0x00001940)
  | .subabCst _ => (0x00001FFC, 0x000019C0)
  | .addahReg _ => (0x00001FFC, 0x00001A40)
  | .subahReg _ => (0x00001FFC, 0x00001AC0)
  | .addahCst _ => (0x00001FFC, 0x00001B40)
  | .subahCst _ => (0x00001FFC, 0x00001BC0)
  | .addawReg _ => (0x00001FFC, 0x00001C40)
  | .subawReg _ => (0x00001FFC, 0x00001CC0)
  | .addawCst _ => (0x00001FFC, 0x00001D40)
  | .subawCst _ => (0x00001FFC, 0x00001DC0)
  | .ldhu _ => (0x0000017C, 0x00000004)
  | .ldhu15 _ => (0x0000007C, 0x0000000C)
  | .ldbu _ => (0x0000017C, 0x00000014)
  | .ldbu15 _ => (0x0000007C, 0x0000001C)
  | .ldb _ => (0x0000017C, 0x00000024)
  | .ldb15 _ => (0x0000007C, 0x0000002C)
  | .stb _ => (0x0000017C, 0x00000034)
  | .stb15 _ => (0x0000007C, 0x0000003C)
  | .ldh _ => (0x0000017C, 0x00000044)
  | .ldh15 _ => (0x0000007C, 0x0000004C)
  | .sth _ => (0x0000017C, 0x00000054)
  | .sth15 _ => (0x0000007C, 0x0000005C)
  | .ldw _ => (0x0000017C, 0x00000064)
  | .ldw15 _ => (0x0000007C, 0x0000006C)
  | .stw _ => (0x0000017C, 0x00000074)
  | .stw15 _ => (0x0000007C, 0x0000007C)
  | .lddw _ => (0x0000017C, 0x00000164)
  | .nop _ => (0xFFFF1FFE, 0x00000000)
  | .nop9 _ => (0xFFFFFFFE, 0x00010000)
  | .idle _ => (0xFFFFFFFC, 0x0001E000)

end Sys2Proof
end

