-- ==== Sys2Proof/Certificates/Slice0/Obligations.lean ====
section
/-! DEFINITION. The statements for the provers, each a rule of spec/ (or several) as a property of the model. -/
open Sys2Proof Sys2Proof.Machine

/-- Decoding the word of an instruction gives the instruction back (30_encoding R110-R126, R115, R118, R125, R160). The add
bit of a format LSR mode is read by the table of R282: log 10 (DEDUCED). -/
def Obligations.DecodeInvertsEncode : Prop :=
  ∀ i : Instr, decode (encode i) = .ok i

/-- A word that decodes is the word of its instruction (30_encoding R110-R128, R128). The add bit of a format LSR mode is
read by the table of R282: log 10 (DEDUCED). -/
def Obligations.EncodeInvertsDecode : Prop :=
  ∀ (w : Word) (i : Instr), decode w = .ok i → encode i = w

/-- A word decodes to an instruction of a row of the opcode table only with its fixed bits, and whenever it has them
(30_encoding R114-R125, R128, R160, R282, opcode_table.json). -/
def Obligations.DecoderFollowsOpcodeTable : Prop :=
  (∀ (w : Word) (i : Instr), decode w = .ok i → w &&& i.tableRow.1 = i.tableRow.2) ∧
  ∀ (w : Word) (i : Instr), w &&& i.tableRow.1 = i.tableRow.2 →
    field w 28 4 ≠ 1 → (field w 28 4).toNat < 14 →
    (field w 2 2 = 1 → field w 9 4 ≠ 2 ∧ field w 9 4 ≠ 3 ∧ field w 9 4 ≠ 6 ∧ field w 9 4 ≠ 7) →
    ∃ j, decode w = .ok j ∧ j.tableRow = i.tableRow

/-- Words written out from the formats decode to their instructions (30_encoding R113-R125, 42_s_unit R224,
40_packets_and_conditions R165). Mode 0000 of format LSR subtracts, by the table of R282: log 10 (DEDUCED). -/
def Obligations.DecodesWrittenWords : Prop :=
  decode 0b00000010100011000100000001111000 =
      .ok (.addLReg ⟨.always, .a, false, 5, 3, 2, false⟩) ∧
  decode 0x001999A8 = .ok (.mvk ⟨.always, .a, false, 0, 0x3333⟩) ∧
  decode 0b10010001000010100110110010000011 =
      .ok (.mpyReg ⟨.ifZero .a1, .b, true, 2, 2, 19, false⟩) ∧
  decode 0b00000010000100000111110101000000 = .ok (.addawCst ⟨.always, .a, false, 4, 4, 3⟩) ∧
  decode 0b00000010100100000010000001100100 =
      .ok (.ldw ⟨.always, .a, false, .a, 5, 4, ⟨.none, .cst 1, false⟩⟩) ∧
  decode 0b00100111111111111111111100010010 = .ok (.bDisp ⟨.ifNonzero .b0, .b, false, 0x0FFFFE⟩) ∧
  decode 0x00008000 = .ok (.nop ⟨4, false⟩) ∧ decode 0x00010000 = .ok (.nop9 ⟨false⟩) ∧
  decode 0x0001E000 = .ok (.idle ⟨false, false⟩)

/-- Reserved condition codes, formats, LSR modes and NOP fields are not instructions (30_encoding R128, R114, R160, R282,
R125). -/
def Obligations.ReservedWordsAreRefused : Prop :=
  ∀ (w : Word) (i : Instr), decode w = .ok i →
    (field w 2 11 ≠ 0 → field w 28 4 ≠ 1 ∧ field w 29 3 ≠ 7) ∧
    field w 2 5 ≠ 0b01100 ∧ field w 2 5 ≠ 0b11100 ∧
    (field w 2 2 = 1 → field w 9 4 ≠ 2 ∧ field w 9 4 ≠ 3 ∧ field w 9 4 ≠ 6 ∧ field w 9 4 ≠ 7) ∧
    (field w 2 2 = 1 → flag w 8 = true → field w 4 3 = 0b110) ∧
    (field w 2 11 = 0 → field w 18 14 = 0 ∧ ((field w 13 4).toNat ≤ 8 ∨ field w 13 4 = 15))

/-- An instruction that the VARIANT does not have stops with the named fault, whatever its condition (10_state R21, R112,
R36, 30_encoding R128, 44_d_unit R298). The order of the checks and their independence of the condition are the model's:
log 14; an odd LDDW destination: log 11; the 5-bit constant on C64x: log 16 (all DEDUCED or DESIGN CHOICE). -/
def Obligations.IllegalInstructionFaults : Prop :=
  ∀ (i : Instr) (s : State),
    let v := s.params.variant
    let known := condExists v i && cstFits v i && dwordExists v i && dwordEven i
    (known = false → exec i s = .fault .reservedEncoding) ∧
    (known = true → regsExist v i = false → exec i s = .fault .noSuchRegister) ∧
    (known = true → regsExist v i = true → pairsEven i = false → exec i s = .fault .oddRegisterForPair) ∧
    (known = true → regsExist v i = true → pairsEven i = true → ctrlLegal v i = false →
      exec i s = .fault .illegalControlRegister)

/-- An instruction whose condition is false changes nothing; the condition is the test of the named register
(40_packets_and_conditions R161, R160). -/
def Obligations.FalseConditionHasNoEffect : Prop :=
  ∀ (i : Instr) (s : State), wf s.params.variant i = true →
    (∀ r, i.demand.cond = .ifNonzero r → s.gpr r.reg.1 r.reg.2 = 0 → exec i s = .next s) ∧
    (∀ r, i.demand.cond = .ifZero r → s.gpr r.reg.1 r.reg.2 ≠ 0 → exec i s = .next s)

/-- Frame of every instruction: E1 only adds to what is in flight, and only what the instruction may add
(40_packets_and_conditions R155, R156, R157, R161, R409). -/
def Obligations.InstructionOnlyAddsItsEffects : Prop :=
  ∀ (i : Instr) (s u : State), exec i s = .next u → ∃ e : Effects, e.belongTo i ∧
    ∀ f : Flight, exec i { s with flight := f } = .next (State.withEffects { s with flight := f } e)

/-- All instructions of a packet read the state at the start of the cycle (40_packets_and_conditions R156, R155). R156
speaks of the values read; that effects are appended in the order of the words is the model's. -/
def Obligations.PacketReadsStartOfCycle : Prop :=
  ∀ (ep : List Instr) (s t : State), execAll ep s = .next t →
    ∃ es : List Effects, List.Forall₂ (fun i e => exec i s = .next (s.withEffects e)) ep es ∧
      t = es.foldl State.withEffects s

/-- Frame of a step that runs a packet from a settled machine (40_packets_and_conditions R155, R157, R161, R409). -/
def Obligations.PacketStepFrame : Prop :=
  ∀ (s t : State) (ep : List Instr), s.settled → s.undisturbed → s.input.requests = 0 → fetch s = .ok ep →
    step s = .next t →
    (∀ side r, (∀ i ∈ ep, ∀ u ∈ i.demand.writes, (side, r) ∉ u.regs) → t.gpr side r = s.gpr side r) ∧
    ((∀ i ∈ ep, ∀ o, i ≠ .mvcWrite o) → t.ctrl = s.ctrl) ∧
    ((∀ i ∈ ep, ∀ d, i.demand.data = some d → d.store = false) → ∀ a, readByte t.mem a = readByte s.mem a) ∧
    t.pc = s.pc + BitVec.ofNat 32 (4 * ep.length) ∧ t.params = s.params

/-- ADD on .L, .S and .D, ADDU, ADDK and ADD2 write the sum (R181, R182, R210, R211, R284, R212, 30_encoding R113, R126). -/
def Obligations.AdditionResults : Prop :=
  ∀ s : State,
  (∀ o, writesWord s (.addLCst o) o.side o.dst (o.cst.signExtend 32 + crossC s o) 0) ∧
  (∀ o, writesWord s (.addLReg o) o.side o.dst (own1 s o + cross2 s o) 0) ∧
  (∀ o, writesLong s (.addLCstLong o) o.side o.dst (o.cst.signExtend 40 + s.gprLong o.side o.src2)) ∧
  (∀ o, writesLong s (.addLRegLong o) o.side o.dst ((cross1 s o).signExtend 40 + s.gprLong o.side o.src2)) ∧
  (∀ o, writesLong s (.addLWide o) o.side o.dst ((own1 s o).signExtend 40 + (cross2 s o).signExtend 40)) ∧
  (∀ o, writesWord s (.addSCst o) o.side o.dst (o.cst.signExtend 32 + crossC s o) 0) ∧
  (∀ o, writesWord s (.addSReg o) o.side o.dst (own1 s o + cross2 s o) 0) ∧
  (∀ o, writesLong s (.adduRegLong o) o.side o.dst ((cross1 s o).setWidth 40 + s.gprLong o.side o.src2)) ∧
  (∀ o, writesLong s (.adduWide o) o.side o.dst ((own1 s o).setWidth 40 + (cross2 s o).setWidth 40)) ∧
  (∀ o, writesWord s (.addk o) o.side o.dst (s.gpr o.side o.dst + o.cst.signExtend 32) 0) ∧
  (∀ o, writesWord s (.addDReg o) o.side o.dst (s.gpr o.side o.src2 + s.gpr o.side o.src1) 0) ∧
  (∀ o, writesWord s (.addDCst o) o.side o.dst (s.gpr o.side o.src2 + o.cst.setWidth 32) 0) ∧
  (∀ o, writesWord s (.add2 o) o.side o.dst (((own1 s o).extractLsb' 16 16 + (cross2 s o).extractLsb' 16 16) ++ ((own1 s o).extractLsb' 0 16 + (cross2 s o).extractLsb' 0 16)) 0)

/-- SUB on .L, .S and .D, SUBU, SUB2 and SUBC write the difference (R195, R196, R232, R285, R233, R197, 30_encoding R113,
R126). -/
def Obligations.SubtractionResults : Prop :=
  ∀ s : State,
  (∀ o, writesWord s (.subLCst o) o.side o.dst (o.cst.signExtend 32 - crossC s o) 0) ∧
  (∀ o, writesWord s (.subLReg o) o.side o.dst (own1 s o - cross2 s o) 0) ∧
  (∀ o, writesWord s (.subLRegX1 o) o.side o.dst (cross1 s o - s.gpr o.side o.src2) 0) ∧
  (∀ o, writesLong s (.subLCstLong o) o.side o.dst (o.cst.signExtend 40 - s.gprLong o.side o.src2)) ∧
  (∀ o, writesLong s (.subLWide o) o.side o.dst ((own1 s o).signExtend 40 - (cross2 s o).signExtend 40)) ∧
  (∀ o, writesLong s (.subLWideX1 o) o.side o.dst ((cross1 s o).signExtend 40 - (s.gpr o.side o.src2).signExtend 40)) ∧
  (∀ o, writesWord s (.subSCst o) o.side o.dst (o.cst.signExtend 32 - crossC s o) 0) ∧
  (∀ o, writesWord s (.subSReg o) o.side o.dst (own1 s o - cross2 s o) 0) ∧
  (∀ o, writesLong s (.subuWide o) o.side o.dst ((own1 s o).setWidth 40 - (cross2 s o).setWidth 40)) ∧
  (∀ o, writesLong s (.subuWideX1 o) o.side o.dst ((cross1 s o).setWidth 40 - (s.gpr o.side o.src2).setWidth 40)) ∧
  (∀ o, writesWord s (.subDReg o) o.side o.dst (s.gpr o.side o.src2 - s.gpr o.side o.src1) 0) ∧
  (∀ o, writesWord s (.subDCst o) o.side o.dst (s.gpr o.side o.src2 - o.cst.setWidth 32) 0) ∧
  (∀ o, writesWord s (.sub2 o) o.side o.dst (((own1 s o).extractLsb' 16 16 - (cross2 s o).extractLsb' 16 16) ++ ((own1 s o).extractLsb' 0 16 - (cross2 s o).extractLsb' 0 16)) 0) ∧
  (∀ o, writesWord s (.subc o) o.side o.dst (if (cross2 s o).ule (own1 s o) then 2 * (own1 s o - cross2 s o) + 1 else 2 * own1 s o) 0)

/-- SADD, SSUB, SAT, SSHL and ABS clamp; all but ABS set SAT one cycle after a clamped result (R192, R193, R194, R180, R231,
R37, R409). -/
def Obligations.SaturatingResults : Prop :=
  ∀ s : State,
  (∀ o, writesSat s (.saddCst o) o.side o.dst (o.cst.toInt + (crossC s o).toInt) 0) ∧
  (∀ o, writesSat s (.saddReg o) o.side o.dst ((own1 s o).toInt + (cross2 s o).toInt) 0) ∧
  (∀ o, writesSatLong s (.saddCstLong o) o.side o.dst (o.cst.toInt + (s.gprLong o.side o.src2).toInt)) ∧
  (∀ o, writesSatLong s (.saddRegLong o) o.side o.dst ((cross1 s o).toInt + (s.gprLong o.side o.src2).toInt)) ∧
  (∀ o, writesSat s (.ssubCst o) o.side o.dst (o.cst.toInt - (crossC s o).toInt) 0) ∧
  (∀ o, writesSat s (.ssubReg o) o.side o.dst ((own1 s o).toInt - (cross2 s o).toInt) 0) ∧
  (∀ o, writesSat s (.ssubRegX1 o) o.side o.dst ((cross1 s o).toInt - (s.gpr o.side o.src2).toInt) 0) ∧
  (∀ o, writesSatLong s (.ssubCstLong o) o.side o.dst (o.cst.toInt - (s.gprLong o.side o.src2).toInt)) ∧
  (∀ o, writesSat s (.sat o) o.side o.dst ((s.gprLong o.side o.src2).toInt) 0) ∧
  (∀ o, writesSat s (.sshlCst o) o.side o.dst ((crossC s o).toInt * 2 ^ o.cst.toNat) 0) ∧
  (∀ o, (own1 s o).toNat ≤ 31 → writesSat s (.sshlReg o) o.side o.dst ((cross2 s o).toInt * 2 ^ (own1 s o).toNat) 0) ∧
  (∀ o, 31 < (own1 s o).toNat → ready s (.sshlReg o) → exec (.sshlReg o) s = .fault .sshlAmount) ∧
  (∀ o b, b = s.gpr (if o.x then o.side.other else o.side) o.src2 → writesWord s (.absWord o) o.side o.dst
    (if b = 0x80000000 then 0x7FFFFFFF else if b.slt 0 then -b else b) 0) ∧
  (∀ o b, b = s.gprLong o.side o.src2 → writesLong s (.absLong o) o.side o.dst
    (if b = 0x8000000000 then 0x7FFFFFFFFF else if b.slt 0 then -b else b))

/-- CMPEQ, CMPGT, CMPLT, CMPGTU and CMPLTU write 1 or 0 by the signed or unsigned comparison (R184, R185, R186, R187, R188). -/
def Obligations.CompareResults : Prop :=
  ∀ s : State,
  (∀ o, writesWord s (.cmpgtCst o) o.side o.dst (bitWord ((crossC s o).slt (o.cst.signExtend 32))) 0) ∧
  (∀ o, writesWord s (.cmpgtReg o) o.side o.dst (bitWord ((cross2 s o).slt (own1 s o))) 0) ∧
  (∀ o, writesWord s (.cmpgtCstLong o) o.side o.dst (bitWord ((s.gprLong o.side o.src2).slt (o.cst.signExtend 40))) 0) ∧
  (∀ o, writesWord s (.cmpgtRegLong o) o.side o.dst (bitWord ((s.gprLong o.side o.src2).slt ((cross1 s o).signExtend 40))) 0) ∧
  (∀ o, writesWord s (.cmpltCst o) o.side o.dst (bitWord ((o.cst.signExtend 32).slt (crossC s o))) 0) ∧
  (∀ o, writesWord s (.cmpltReg o) o.side o.dst (bitWord ((own1 s o).slt (cross2 s o))) 0) ∧
  (∀ o, writesWord s (.cmpltCstLong o) o.side o.dst (bitWord ((o.cst.signExtend 40).slt (s.gprLong o.side o.src2))) 0) ∧
  (∀ o, writesWord s (.cmpltRegLong o) o.side o.dst (bitWord (((cross1 s o).signExtend 40).slt (s.gprLong o.side o.src2))) 0) ∧
  (∀ o, writesWord s (.cmpeqCst o) o.side o.dst (bitWord (o.cst.signExtend 32 == crossC s o)) 0) ∧
  (∀ o, writesWord s (.cmpeqReg o) o.side o.dst (bitWord (own1 s o == cross2 s o)) 0) ∧
  (∀ o, writesWord s (.cmpeqCstLong o) o.side o.dst (bitWord (o.cst.signExtend 40 == s.gprLong o.side o.src2)) 0) ∧
  (∀ o, writesWord s (.cmpeqRegLong o) o.side o.dst (bitWord ((cross1 s o).signExtend 40 == s.gprLong o.side o.src2)) 0) ∧
  (∀ o, writesWord s (.cmpgtuCst o) o.side o.dst (bitWord ((crossC s o).ult (o.cst.setWidth 32))) 0) ∧
  (∀ o, writesWord s (.cmpgtuReg o) o.side o.dst (bitWord ((cross2 s o).ult (own1 s o))) 0) ∧
  (∀ o, writesWord s (.cmpgtuCstLong o) o.side o.dst (bitWord ((s.gprLong o.side o.src2).ult (o.cst.setWidth 40))) 0) ∧
  (∀ o, writesWord s (.cmpgtuRegLong o) o.side o.dst (bitWord ((s.gprLong o.side o.src2).ult ((cross1 s o).setWidth 40))) 0) ∧
  (∀ o, writesWord s (.cmpltuCst o) o.side o.dst (bitWord ((o.cst.setWidth 32).ult (crossC s o))) 0) ∧
  (∀ o, writesWord s (.cmpltuReg o) o.side o.dst (bitWord ((own1 s o).ult (cross2 s o))) 0) ∧
  (∀ o, writesWord s (.cmpltuCstLong o) o.side o.dst (bitWord ((o.cst.setWidth 40).ult (s.gprLong o.side o.src2))) 0) ∧
  (∀ o, writesWord s (.cmpltuRegLong o) o.side o.dst (bitWord (((cross1 s o).setWidth 40).ult (s.gprLong o.side o.src2))) 0)

/-- LMBD writes the place of the leftmost sought bit, NORM the number of redundant sign bits (R189, R190). -/
def Obligations.BitCountResults : Prop :=
  ∀ s : State,
  (∀ o, ready s (.lmbdCst o) → ∃ n, exec (.lmbdCst o) s = .next (s.putWord o.side o.dst (BitVec.ofNat 32 n) 0) ∧ n ≤ 32 ∧
    (∀ j < n, (crossC s o).getLsbD (31 - j) ≠ o.cst.getLsbD 0) ∧ (n < 32 → (crossC s o).getLsbD (31 - n) = o.cst.getLsbD 0)) ∧
  (∀ o, ready s (.lmbdReg o) → ∃ n, exec (.lmbdReg o) s = .next (s.putWord o.side o.dst (BitVec.ofNat 32 n) 0) ∧ n ≤ 32 ∧
    (∀ j < n, (cross2 s o).getLsbD (31 - j) ≠ (own1 s o).getLsbD 0) ∧ (n < 32 → (cross2 s o).getLsbD (31 - n) = (own1 s o).getLsbD 0)) ∧
  (∀ o, ready s (.normWord o) → ∃ n, exec (.normWord o) s = .next (s.putWord o.side o.dst (BitVec.ofNat 32 n) 0) ∧ n ≤ 31 ∧
    (∀ j < n, (s.gpr (if o.x then o.side.other else o.side) o.src2).getLsbD (30 - j) = (s.gpr (if o.x then o.side.other else o.side) o.src2).getLsbD 31) ∧ (n < 31 → (s.gpr (if o.x then o.side.other else o.side) o.src2).getLsbD (30 - n) ≠ (s.gpr (if o.x then o.side.other else o.side) o.src2).getLsbD 31)) ∧
  (∀ o, ready s (.normLong o) → ∃ n, exec (.normLong o) s = .next (s.putWord o.side o.dst (BitVec.ofNat 32 n) 0) ∧ n ≤ 39 ∧
    (∀ j < n, (s.gprLong o.side o.src2).getLsbD (38 - j) = (s.gprLong o.side o.src2).getLsbD 39) ∧ (n < 39 → (s.gprLong o.side o.src2).getLsbD (38 - n) ≠ (s.gprLong o.side o.src2).getLsbD 39))

/-- AND, OR and XOR write the bitwise result, MVK its constant, MVKH its constant over the low half (R183, R191, R198, R213,
R227, R234, R224, R225). -/
def Obligations.LogicAndMoveResults : Prop :=
  ∀ s : State,
  (∀ o, writesWord s (.andLCst o) o.side o.dst (o.cst.signExtend 32 &&& crossC s o) 0) ∧
  (∀ o, writesWord s (.andLReg o) o.side o.dst (own1 s o &&& cross2 s o) 0) ∧
  (∀ o, writesWord s (.orLCst o) o.side o.dst (o.cst.signExtend 32 ||| crossC s o) 0) ∧
  (∀ o, writesWord s (.orLReg o) o.side o.dst (own1 s o ||| cross2 s o) 0) ∧
  (∀ o, writesWord s (.xorLCst o) o.side o.dst (o.cst.signExtend 32 ^^^ crossC s o) 0) ∧
  (∀ o, writesWord s (.xorLReg o) o.side o.dst (own1 s o ^^^ cross2 s o) 0) ∧
  (∀ o, writesWord s (.andSCst o) o.side o.dst (o.cst.signExtend 32 &&& crossC s o) 0) ∧
  (∀ o, writesWord s (.andSReg o) o.side o.dst (own1 s o &&& cross2 s o) 0) ∧
  (∀ o, writesWord s (.orSCst o) o.side o.dst (o.cst.signExtend 32 ||| crossC s o) 0) ∧
  (∀ o, writesWord s (.orSReg o) o.side o.dst (own1 s o ||| cross2 s o) 0) ∧
  (∀ o, writesWord s (.xorSCst o) o.side o.dst (o.cst.signExtend 32 ^^^ crossC s o) 0) ∧
  (∀ o, writesWord s (.xorSReg o) o.side o.dst (own1 s o ^^^ cross2 s o) 0) ∧
  (∀ o, writesWord s (.mvk o) o.side o.dst (o.cst.signExtend 32) 0) ∧
  (∀ o, writesWord s (.mvkh o) o.side o.dst (o.cst ++ (s.gpr o.side o.dst).extractLsb' 0 16) 0)

/-- SHL, SHR and SHRU write the shifted operand, bit by bit (R222, R228, R229, R230). The amount is written as src1 modulo
64, where R222 says that amounts above 39 count as 40: the same, since 40 bits are gone either way. -/
def Obligations.ShiftResults : Prop :=
  ∀ s : State,
  (∀ o, ready s (.shlCst o) → ∃ v : BitVec 32, isShl (crossC s o) (o.cst.toNat) v ∧ exec (.shlCst o) s = .next (s.putWord o.side o.dst v 0)) ∧
  (∀ o, ready s (.shlReg o) → ∃ v : BitVec 32, isShl (cross2 s o) (amount (s.gpr o.side o.src1)) v ∧ exec (.shlReg o) s = .next (s.putWord o.side o.dst v 0)) ∧
  (∀ o, ready s (.shlCstLong o) → ∃ v : BitVec 40, isShl (s.gprLong o.side o.src2) (o.cst.toNat) v ∧ exec (.shlCstLong o) s = .next (s.putLong o.side o.dst v)) ∧
  (∀ o, ready s (.shlRegLong o) → ∃ v : BitVec 40, isShl (s.gprLong o.side o.src2) (amount (s.gpr o.side o.src1)) v ∧ exec (.shlRegLong o) s = .next (s.putLong o.side o.dst v)) ∧
  (∀ o, ready s (.shrCst o) → ∃ v : BitVec 32, isShr (crossC s o) (o.cst.toNat) v ∧ exec (.shrCst o) s = .next (s.putWord o.side o.dst v 0)) ∧
  (∀ o, ready s (.shrReg o) → ∃ v : BitVec 32, isShr (cross2 s o) (amount (s.gpr o.side o.src1)) v ∧ exec (.shrReg o) s = .next (s.putWord o.side o.dst v 0)) ∧
  (∀ o, ready s (.shrCstLong o) → ∃ v : BitVec 40, isShr (s.gprLong o.side o.src2) (o.cst.toNat) v ∧ exec (.shrCstLong o) s = .next (s.putLong o.side o.dst v)) ∧
  (∀ o, ready s (.shrRegLong o) → ∃ v : BitVec 40, isShr (s.gprLong o.side o.src2) (amount (s.gpr o.side o.src1)) v ∧ exec (.shrRegLong o) s = .next (s.putLong o.side o.dst v)) ∧
  (∀ o, ready s (.shruCst o) → ∃ v : BitVec 32, isShru (crossC s o) (o.cst.toNat) v ∧ exec (.shruCst o) s = .next (s.putWord o.side o.dst v 0)) ∧
  (∀ o, ready s (.shruReg o) → ∃ v : BitVec 32, isShru (cross2 s o) (amount (s.gpr o.side o.src1)) v ∧ exec (.shruReg o) s = .next (s.putWord o.side o.dst v 0)) ∧
  (∀ o, ready s (.shruCstLong o) → ∃ v : BitVec 40, isShru (s.gprLong o.side o.src2) (o.cst.toNat) v ∧ exec (.shruCstLong o) s = .next (s.putLong o.side o.dst v)) ∧
  (∀ o, ready s (.shruRegLong o) → ∃ v : BitVec 40, isShru (s.gprLong o.side o.src2) (amount (s.gpr o.side o.src1)) v ∧ exec (.shruRegLong o) s = .next (s.putLong o.side o.dst v)) ∧
  (∀ o, ready s (.shlCstWide o) → ∃ v : BitVec 40, isShl ((crossC s o).setWidth 40) (o.cst.toNat) v ∧ exec (.shlCstWide o) s = .next (s.putLong o.side o.dst v)) ∧
  (∀ o, ready s (.shlRegWide o) → ∃ v : BitVec 40, isShl ((cross2 s o).setWidth 40) (amount (s.gpr o.side o.src1)) v ∧ exec (.shlRegWide o) s = .next (s.putLong o.side o.dst v))

/-- CLR, SET, EXT and EXTU write the bit field, bit by bit; reversed bounds of CLR and SET fault (R218, R219, R220, R221). -/
def Obligations.BitFieldResults : Prop :=
  ∀ s : State,
  (∀ o, o.csta.toNat ≤ o.cstb.toNat → ready s (.clrCst o) → ∃ v : Word, exec (.clrCst o) s = .next (s.putWord o.side o.dst v 0) ∧
    ∀ j < 32, v.getLsbD j = (!(decide (o.csta.toNat ≤ j) && decide (j ≤ o.cstb.toNat)) && (s.gpr o.side o.src2).getLsbD j)) ∧
  (∀ o, ((own1 s o).toNat / 32 % 32) ≤ ((own1 s o).toNat % 32) → ready s (.clrReg o) → ∃ v : Word, exec (.clrReg o) s = .next (s.putWord o.side o.dst v 0) ∧
    ∀ j < 32, v.getLsbD j = (!(decide (((own1 s o).toNat / 32 % 32) ≤ j) && decide (j ≤ ((own1 s o).toNat % 32))) && (cross2 s o).getLsbD j)) ∧
  (∀ o, o.csta.toNat ≤ o.cstb.toNat → ready s (.setCst o) → ∃ v : Word, exec (.setCst o) s = .next (s.putWord o.side o.dst v 0) ∧
    ∀ j < 32, v.getLsbD j = ((decide (o.csta.toNat ≤ j) && decide (j ≤ o.cstb.toNat)) || (s.gpr o.side o.src2).getLsbD j)) ∧
  (∀ o, ((own1 s o).toNat / 32 % 32) ≤ ((own1 s o).toNat % 32) → ready s (.setReg o) → ∃ v : Word, exec (.setReg o) s = .next (s.putWord o.side o.dst v 0) ∧
    ∀ j < 32, v.getLsbD j = ((decide (((own1 s o).toNat / 32 % 32) ≤ j) && decide (j ≤ ((own1 s o).toNat % 32))) || (cross2 s o).getLsbD j)) ∧
  (∀ o, ready s (.extCst o) → ∃ v : Word, exec (.extCst o) s = .next (s.putWord o.side o.dst v 0) ∧
    ∀ j < 32, v.getLsbD j = (decide (o.csta.toNat ≤ min (j + o.cstb.toNat) 31) && (s.gpr o.side o.src2).getLsbD (min (j + o.cstb.toNat) 31 - o.csta.toNat))) ∧
  (∀ o, ready s (.extReg o) → ∃ v : Word, exec (.extReg o) s = .next (s.putWord o.side o.dst v 0) ∧
    ∀ j < 32, v.getLsbD j = (decide (((own1 s o).toNat / 32 % 32) ≤ min (j + ((own1 s o).toNat % 32)) 31) && (cross2 s o).getLsbD (min (j + ((own1 s o).toNat % 32)) 31 - ((own1 s o).toNat / 32 % 32)))) ∧
  (∀ o, ready s (.extuCst o) → ∃ v : Word, exec (.extuCst o) s = .next (s.putWord o.side o.dst v 0) ∧
    ∀ j < 32, v.getLsbD j = (decide (j + o.cstb.toNat < 32) && decide (o.csta.toNat ≤ j + o.cstb.toNat) && (s.gpr o.side o.src2).getLsbD (j + o.cstb.toNat - o.csta.toNat))) ∧
  (∀ o, ready s (.extuReg o) → ∃ v : Word, exec (.extuReg o) s = .next (s.putWord o.side o.dst v 0) ∧
    ∀ j < 32, v.getLsbD j = (decide (j + ((own1 s o).toNat % 32) < 32) && decide (((own1 s o).toNat / 32 % 32) ≤ j + ((own1 s o).toNat % 32)) && (cross2 s o).getLsbD (j + ((own1 s o).toNat % 32) - ((own1 s o).toNat / 32 % 32)))) ∧
  (∀ o, o.cstb.toNat < o.csta.toNat → ready s (.clrCst o) → exec (.clrCst o) s = .fault .fieldBounds) ∧
  (∀ o, (own1 s o).toNat % 32 < (own1 s o).toNat / 32 % 32 → ready s (.clrReg o) → exec (.clrReg o) s = .fault .fieldBounds) ∧
  (∀ o, o.cstb.toNat < o.csta.toNat → ready s (.setCst o) → exec (.setCst o) s = .fault .fieldBounds) ∧
  (∀ o, (own1 s o).toNat % 32 < (own1 s o).toNat / 32 % 32 → ready s (.setReg o) → exec (.setReg o) s = .fault .fieldBounds)

/-- The sixteen multiplies write the product of the chosen halves, one delay slot later (43_m_unit R249, R250, R251, R252,
R253, R254, R255-R258, R259-R262, R263-R266, R407). -/
def Obligations.MultiplyResults : Prop :=
  ∀ s : State,
  (∀ o, writesWord s (.mpyReg o) o.side o.dst (((own1 s o).extractLsb' 0 16).signExtend 32 * ((cross2 s o).extractLsb' 0 16).signExtend 32) 1) ∧
  (∀ o, writesWord s (.mpyu o) o.side o.dst (((own1 s o).extractLsb' 0 16).setWidth 32 * ((cross2 s o).extractLsb' 0 16).setWidth 32) 1) ∧
  (∀ o, writesWord s (.mpyus o) o.side o.dst (((own1 s o).extractLsb' 0 16).setWidth 32 * ((cross2 s o).extractLsb' 0 16).signExtend 32) 1) ∧
  (∀ o, writesWord s (.mpysuReg o) o.side o.dst (((own1 s o).extractLsb' 0 16).signExtend 32 * ((cross2 s o).extractLsb' 0 16).setWidth 32) 1) ∧
  (∀ o, writesWord s (.mpyh o) o.side o.dst (((own1 s o).extractLsb' 16 16).signExtend 32 * ((cross2 s o).extractLsb' 16 16).signExtend 32) 1) ∧
  (∀ o, writesWord s (.mpyhu o) o.side o.dst (((own1 s o).extractLsb' 16 16).setWidth 32 * ((cross2 s o).extractLsb' 16 16).setWidth 32) 1) ∧
  (∀ o, writesWord s (.mpyhus o) o.side o.dst (((own1 s o).extractLsb' 16 16).setWidth 32 * ((cross2 s o).extractLsb' 16 16).signExtend 32) 1) ∧
  (∀ o, writesWord s (.mpyhsu o) o.side o.dst (((own1 s o).extractLsb' 16 16).signExtend 32 * ((cross2 s o).extractLsb' 16 16).setWidth 32) 1) ∧
  (∀ o, writesWord s (.mpyhl o) o.side o.dst (((own1 s o).extractLsb' 16 16).signExtend 32 * ((cross2 s o).extractLsb' 0 16).signExtend 32) 1) ∧
  (∀ o, writesWord s (.mpyhlu o) o.side o.dst (((own1 s o).extractLsb' 16 16).setWidth 32 * ((cross2 s o).extractLsb' 0 16).setWidth 32) 1) ∧
  (∀ o, writesWord s (.mpyhuls o) o.side o.dst (((own1 s o).extractLsb' 16 16).setWidth 32 * ((cross2 s o).extractLsb' 0 16).signExtend 32) 1) ∧
  (∀ o, writesWord s (.mpyhslu o) o.side o.dst (((own1 s o).extractLsb' 16 16).signExtend 32 * ((cross2 s o).extractLsb' 0 16).setWidth 32) 1) ∧
  (∀ o, writesWord s (.mpylh o) o.side o.dst (((own1 s o).extractLsb' 0 16).signExtend 32 * ((cross2 s o).extractLsb' 16 16).signExtend 32) 1) ∧
  (∀ o, writesWord s (.mpylhu o) o.side o.dst (((own1 s o).extractLsb' 0 16).setWidth 32 * ((cross2 s o).extractLsb' 16 16).setWidth 32) 1) ∧
  (∀ o, writesWord s (.mpyluhs o) o.side o.dst (((own1 s o).extractLsb' 0 16).setWidth 32 * ((cross2 s o).extractLsb' 16 16).signExtend 32) 1) ∧
  (∀ o, writesWord s (.mpylshu o) o.side o.dst (((own1 s o).extractLsb' 0 16).signExtend 32 * ((cross2 s o).extractLsb' 16 16).setWidth 32) 1) ∧
  (∀ o, writesWord s (.mpyCst o) o.side o.dst (o.cst.signExtend 32 * ((crossC s o).extractLsb' 0 16).signExtend 32) 1) ∧
  (∀ o, writesWord s (.mpysuCst o) o.side o.dst (o.cst.signExtend 32 * ((crossC s o).extractLsb' 0 16).setWidth 32) 1)

/-- SMPY, SMPYH, SMPYHL and SMPYLH write the doubled product; it saturates exactly for 0x8000 times 0x8000 (R267, R268,
R269, R270, R409). -/
def Obligations.SaturatingMultiplyResults : Prop :=
  ∀ s : State,
  (∀ o, ready s (.smpy o) → exec (.smpy o) s = .next (if (own1 s o).extractLsb' 0 16 = 0x8000 ∧ (cross2 s o).extractLsb' 0 16 = 0x8000 then
      (s.putWord o.side o.dst 0x7FFFFFFF 1).pendSat 1
    else s.putWord o.side o.dst (2 * (((own1 s o).extractLsb' 0 16).signExtend 32 * ((cross2 s o).extractLsb' 0 16).signExtend 32)) 1)) ∧
  (∀ o, ready s (.smpyh o) → exec (.smpyh o) s = .next (if (own1 s o).extractLsb' 16 16 = 0x8000 ∧ (cross2 s o).extractLsb' 16 16 = 0x8000 then
      (s.putWord o.side o.dst 0x7FFFFFFF 1).pendSat 1
    else s.putWord o.side o.dst (2 * (((own1 s o).extractLsb' 16 16).signExtend 32 * ((cross2 s o).extractLsb' 16 16).signExtend 32)) 1)) ∧
  (∀ o, ready s (.smpyhl o) → exec (.smpyhl o) s = .next (if (own1 s o).extractLsb' 16 16 = 0x8000 ∧ (cross2 s o).extractLsb' 0 16 = 0x8000 then
      (s.putWord o.side o.dst 0x7FFFFFFF 1).pendSat 1
    else s.putWord o.side o.dst (2 * (((own1 s o).extractLsb' 16 16).signExtend 32 * ((cross2 s o).extractLsb' 0 16).signExtend 32)) 1)) ∧
  (∀ o, ready s (.smpylh o) → exec (.smpylh o) s = .next (if (own1 s o).extractLsb' 0 16 = 0x8000 ∧ (cross2 s o).extractLsb' 16 16 = 0x8000 then
      (s.putWord o.side o.dst 0x7FFFFFFF 1).pendSat 1
    else s.putWord o.side o.dst (2 * (((own1 s o).extractLsb' 0 16).signExtend 32 * ((cross2 s o).extractLsb' 16 16).signExtend 32)) 1))

/-- ADDAB, ADDAH, ADDAW, SUBAB, SUBAH and SUBAW write the linear or circular sum or difference (R286, R287, R283, R38, R39,
R30). -/
def Obligations.AddressArithmeticResults : Prop :=
  ∀ s : State,
  (∀ o, computesAddress s (.addabReg o) o.side o.src2 o.dst (1 * s.gpr o.side o.src1) true) ∧
  (∀ o, computesAddress s (.addabCst o) o.side o.src2 o.dst (1 * o.cst.setWidth 32) true) ∧
  (∀ o, computesAddress s (.addahReg o) o.side o.src2 o.dst (2 * s.gpr o.side o.src1) true) ∧
  (∀ o, computesAddress s (.addahCst o) o.side o.src2 o.dst (2 * o.cst.setWidth 32) true) ∧
  (∀ o, computesAddress s (.addawReg o) o.side o.src2 o.dst (4 * s.gpr o.side o.src1) true) ∧
  (∀ o, computesAddress s (.addawCst o) o.side o.src2 o.dst (4 * o.cst.setWidth 32) true) ∧
  (∀ o, computesAddress s (.subabReg o) o.side o.src2 o.dst (1 * s.gpr o.side o.src1) false) ∧
  (∀ o, computesAddress s (.subabCst o) o.side o.src2 o.dst (1 * o.cst.setWidth 32) false) ∧
  (∀ o, computesAddress s (.subahReg o) o.side o.src2 o.dst (2 * s.gpr o.side o.src1) false) ∧
  (∀ o, computesAddress s (.subahCst o) o.side o.src2 o.dst (2 * o.cst.setWidth 32) false) ∧
  (∀ o, computesAddress s (.subawReg o) o.side o.src2 o.dst (4 * s.gpr o.side o.src1) false) ∧
  (∀ o, computesAddress s (.subawCst o) o.side o.src2 o.dst (4 * o.cst.setWidth 32) false) ∧
  (∀ side r v off add, amrMode s.ctrl.amr side r ≠ 3 → ∃! w, isAddress s.ctrl.amr side r v off add w)

/-- Loads of format LSR: address, base update and misalignment in every addressing mode (R282, R283, R288, R290-R294, R298,
R85). The add bit of a mode comes from the table of R282: log 10 (DEDUCED). -/
def Obligations.LoadsComputeAddressAndBase : Prop :=
  ∀ s : State,
  (∀ o, accessesLsr s (.ldb o) o 1 fun a t => t.pendLoad a .byte true o.side o.data) ∧
  (∀ o, accessesLsr s (.ldbu o) o 1 fun a t => t.pendLoad a .byte false o.side o.data) ∧
  (∀ o, accessesLsr s (.ldh o) o 2 fun a t => t.pendLoad a .half true o.side o.data) ∧
  (∀ o, accessesLsr s (.ldhu o) o 2 fun a t => t.pendLoad a .half false o.side o.data) ∧
  (∀ o, accessesLsr s (.ldw o) o 4 fun a t => t.pendLoad a .word false o.side o.data) ∧
  (∀ o, accessesLsr s (.lddw o) o 8 fun a t => t.pendLoad a .dword false o.side o.data)

/-- Stores of format LSR: address, base update, data register read in E1, misalignment (R282, R283, R288, R295, R296, R297,
R85). The add bit of a mode comes from the table of R282: log 10 (DEDUCED). -/
def Obligations.StoresComputeAddressAndBase : Prop :=
  ∀ s : State,
  (∀ o, accessesLsr s (.stb o) o 1 fun a t => t.pendStore a .byte (s.gpr o.side o.data)) ∧
  (∀ o, accessesLsr s (.sth o) o 2 fun a t => t.pendStore a .half (s.gpr o.side o.data)) ∧
  (∀ o, accessesLsr s (.stw o) o 4 fun a t => t.pendStore a .word (s.gpr o.side o.data))

/-- Loads and stores of format LS15 address B14 or B15 plus the scaled 15-bit constant, always linear (R119, R282, R288,
R85). -/
def Obligations.LongOffsetAccesses : Prop :=
  ∀ s : State,
  (∀ o, accesses15 s (.ldb15 o) o 1 fun a t => t.pendLoad a .byte true o.side o.data) ∧
  (∀ o, accesses15 s (.ldbu15 o) o 1 fun a t => t.pendLoad a .byte false o.side o.data) ∧
  (∀ o, accesses15 s (.ldh15 o) o 2 fun a t => t.pendLoad a .half true o.side o.data) ∧
  (∀ o, accesses15 s (.ldhu15 o) o 2 fun a t => t.pendLoad a .half false o.side o.data) ∧
  (∀ o, accesses15 s (.ldw15 o) o 4 fun a t => t.pendLoad a .word false o.side o.data) ∧
  (∀ o, accesses15 s (.stb15 o) o 1 fun a t => t.pendStore a .byte (s.gpr o.side o.data)) ∧
  (∀ o, accesses15 s (.sth15 o) o 2 fun a t => t.pendStore a .half (s.gpr o.side o.data)) ∧
  (∀ o, accesses15 s (.stw15 o) o 4 fun a t => t.pendStore a .word (s.gpr o.side o.data))

/-- Branches put their target in flight with five delay slots; a misaligned register target faults (R214, R215, R216, R217,
R86). -/
def Obligations.BranchResults : Prop :=
  ∀ s : State,
  (∀ o, ready s (.bDisp o) → exec (.bDisp o) s = .next (s.pendBranch (s.pce1 + 4 * o.cst.signExtend 32) .plain)) ∧
  (∀ o a, a = s.gpr (if o.x then .a else .b) o.src2 → ready s (.bReg o) →
    (a.toNat % 4 = 0 → exec (.bReg o) s = .next (s.pendBranch a .plain)) ∧
    (a.toNat % 4 ≠ 0 → exec (.bReg o) s = .fault .misalignedBranchTarget)) ∧
  (∀ o, ready s (.bIrp o) →
    (s.ctrl.irp.toNat % 4 = 0 → exec (.bIrp o) s = .next (s.pendBranch s.ctrl.irp .irp)) ∧
    (s.ctrl.irp.toNat % 4 ≠ 0 → exec (.bIrp o) s = .fault .misalignedBranchTarget)) ∧
  (∀ o, ready s (.bNrp o) →
    (s.ctrl.nrp.toNat % 4 = 0 → exec (.bNrp o) s = .next (s.pendBranch s.ctrl.nrp .nrp)) ∧
    (s.ctrl.nrp.toNat % 4 ≠ 0 → exec (.bNrp o) s = .fault .misalignedBranchTarget)) ∧
  (∀ a k, (s.pendBranch a k).flight.pb = s.flight.pb ++ [⟨a, 5, k⟩])

/-- MVC from each readable control register writes its value; ISTP shows the highest-priority enabled pending interrupt
(R36, R226, R45, R48, R42, R43). HPEINT does not look at GIE or NMIE: log 22 (DEDUCED). -/
def Obligations.ControlRegisterReads : Prop :=
  ∀ (s : State) (o : MvcReadForm), ready s (.mvcRead o) → ∃ v, exec (.mvcRead o) s = .next (s.putWord .b o.dst v 0) ∧
    (o.cr = 0 → v = s.ctrl.amr) ∧
    (o.cr = 1 → v = s.ctrl.csr) ∧
    (o.cr = 2 → v = s.ctrl.ifr) ∧
    (o.cr = 4 → v = s.ctrl.ier) ∧
    (o.cr = 6 → v = s.ctrl.irp) ∧
    (o.cr = 7 → v = s.ctrl.nrp) ∧
    (o.cr = 16 → v = s.pce1) ∧
    (o.cr = 18 → v = s.ctrl.fadcr) ∧
    (o.cr = 19 → v = s.ctrl.faucr) ∧
    (o.cr = 20 → v = s.ctrl.fmcr) ∧
    (o.cr = 5 → v.extractLsb' 10 22 = s.ctrl.istb ∧ v.extractLsb' 0 5 = 0 ∧
      ∀ n, (v.extractLsb' 5 5).toNat = n →
        (n = 0 ∧ (∀ m, (m = 1 ∨ 4 ≤ m ∧ m ≤ 15) → ¬ (s.ctrl.ifr.getLsbD m = true ∧ s.ctrl.ier.getLsbD m = true))) ∨
        ((n = 1 ∨ 4 ≤ n ∧ n ≤ 15) ∧ s.ctrl.ifr.getLsbD n = true ∧ s.ctrl.ier.getLsbD n = true ∧
          ∀ m, (m = 1 ∨ 4 ≤ m) → m < n → ¬ (s.ctrl.ifr.getLsbD m = true ∧ s.ctrl.ier.getLsbD m = true)))

/-- MVC to each writable control register puts its write in flight, ISR and ICR one delay slot later (R36, R226, R410,
R414). -/
def Obligations.ControlRegisterWrites : Prop :=
  ∀ (s : State) (o : MvcWriteForm), ready s (.mvcWrite o) → ∃ c, exec (.mvcWrite o) s =
      .next (s.putCtrl c (s.gpr (if o.x then .a else .b) o.src2) (if o.cr = 2 ∨ o.cr = 3 then 1 else 0)) ∧
    (o.cr = 0 → c = .amr) ∧
    (o.cr = 1 → c = .csr) ∧
    (o.cr = 2 → c = .isr) ∧
    (o.cr = 3 → c = .icr) ∧
    (o.cr = 4 → c = .ier) ∧
    (o.cr = 5 → c = .istp) ∧
    (o.cr = 6 → c = .irp) ∧
    (o.cr = 7 → c = .nrp) ∧
    (o.cr = 18 → c = .fadcr) ∧
    (o.cr = 19 → c = .faucr) ∧
    (o.cr = 20 → c = .fmcr)

/-- What each control register holds, bit by bit, after a write lands (R37, R38, R42, R43, R44, R45, R46, R47, R50, R51,
R52, R410). -/
def Obligations.ControlRegisterBitsAfterWrite : Prop :=
  ∀ (c : Ctrl) (w : Word) (j : Nat), j < 32 →
    (c.land .amr w = { c with amr := (c.land .amr w).amr }) ∧
    ((c.land .amr w).amr.getLsbD j = (decide (j < 26) && w.getLsbD j)) ∧
    (c.land .csr w = { c with csr := (c.land .csr w).csr }) ∧
    ((c.land .csr w).csr.getLsbD j =
      if j = 9 then c.csr.getLsbD 9 && w.getLsbD 9 else if 16 ≤ j ∨ j = 8 then c.csr.getLsbD j else w.getLsbD j) ∧
    (c.land .ier w = { c with ier := (c.land .ier w).ier }) ∧
    ((c.land .ier w).ier.getLsbD j =
      if j = 0 then true else if j = 1 then c.ier.getLsbD 1 || w.getLsbD 1 else decide (4 ≤ j ∧ j ≤ 15) && w.getLsbD j) ∧
    (c.land .istp w = { c with istb := (c.land .istp w).istb }) ∧
    ((c.land .istp w).istb.getLsbD j = (decide (j < 22) && w.getLsbD (j + 10))) ∧
    (c.land .irp w = { c with irp := w }) ∧ (c.land .nrp w = { c with nrp := w }) ∧
    (c.land .fadcr w = { c with fadcr := (c.land .fadcr w).fadcr }) ∧
    ((c.land .fadcr w).fadcr.getLsbD j = (decide (j % 16 < 11) && w.getLsbD j)) ∧
    (c.land .faucr w = { c with faucr := (c.land .faucr w).faucr }) ∧
    ((c.land .faucr w).faucr.getLsbD j = (decide (j % 16 < 11) && w.getLsbD j)) ∧
    (c.land .fmcr w = { c with fmcr := (c.land .fmcr w).fmcr }) ∧
    ((c.land .fmcr w).fmcr.getLsbD j = (decide (j % 16 < 11) && w.getLsbD j)) ∧
    (c.land .isr w = { c with ifr := (c.land .isr w).ifr }) ∧
    ((c.land .isr w).ifr.getLsbD j = (c.ifr.getLsbD j || (decide (4 ≤ j ∧ j ≤ 15) && w.getLsbD j))) ∧
    (c.land .icr w = { c with ifr := (c.land .icr w).ifr }) ∧
    ((c.land .icr w).ifr.getLsbD j = (c.ifr.getLsbD j && !(decide (4 ≤ j ∧ j ≤ 15) && w.getLsbD j)))

/-- NOP of n cycles asks for n - 1 empty cycles, IDLE asks for the idle state; neither does anything else (R165, R166,
R125). -/
def Obligations.NopAndIdleRequests : Prop :=
  ∀ s : State,
    (∀ o, exec (.nop o) s = .next { s with flight := { s.flight with nopreq := max s.flight.nopreq o.src.toNat } }) ∧
    (∀ o, exec (.nop9 o) s = .next { s with flight := { s.flight with nopreq := max s.flight.nopreq 8 } }) ∧
    (∀ o, exec (.idle o) s = .next { s with flight := { s.flight with idlereq := true } })

/-- A long in a register pair: how it is read, and what a write of it leaves in the pair (R24). -/
def Obligations.LongLivesInRegisterPair : Prop :=
  ∀ (s : State) (side : Side) (r : RegNum),
    (∀ j < 40, (s.gprLong side r).getLsbD j =
      if j < 32 then (s.gpr side r).getLsbD j else (s.gpr side (r + 1)).getLsbD (j - 32)) ∧
    ∀ v : Long, s.flight.pw = [] → r.toNat % 2 = 0 → ∃ t, landWrites (s.putLong side r v) = .next t ∧
      t.gprLong side r = v ∧ (t.gpr side (r + 1)).extractLsb' 8 24 = 0 ∧
      ∀ side' r', ¬ (side' = side ∧ (r' = r ∨ r' = r + 1)) → t.gpr side' r' = s.gpr side' r'

/-- Landing: due writes reach their registers, all else stays, two on one register fault (R155 step 5, R157). A set and a
clear of flags that land together name one register: log 25 (DESIGN CHOICE). -/
def Obligations.WritesLandOrConflict : Prop :=
  ∀ s : State,
    (∀ t, landWrites s = .next t →
      (∀ w ∈ s.flight.pw, w.left = 0 → ∀ side r, w.target = .gpr side r → t.gpr side r = w.value) ∧
      (∀ side r, (∀ w ∈ s.flight.pw, w.left = 0 → w.target ≠ .gpr side r) → t.gpr side r = s.gpr side r) ∧
      ((∀ w ∈ s.flight.pw, w.left = 0 → ∀ c, w.target ≠ .ctrl c) → t.ctrl = s.ctrl) ∧
      (∀ xs w ys c, s.flight.pw = xs ++ w :: ys → w.left = 0 → w.target = .ctrl c →
        (∀ u ∈ xs ++ ys, u.left = 0 → ∀ d, u.target ≠ .ctrl d) → t.ctrl = s.ctrl.land c w.value) ∧
      t.ctrl = (s.flight.pw.filter fun w => w.left == 0).foldl (fun k w => match w.target with
        | .ctrl c => k.land c w.value
        | .gpr _ _ => k) s.ctrl ∧
      t.mem = s.mem ∧ t.pc = s.pc ∧
      t.flight.pw = (s.flight.pw.filter fun w => w.left != 0).map fun w => { w with left := w.left - 1 }) ∧
    (∀ xs v ys w zs, s.flight.pw = xs ++ v :: ys ++ w :: zs → v.left = 0 → w.left = 0 → v.target = w.target →
      landWrites s = .fault .writeConflict) ∧
    (((s.flight.pw.filter fun w => w.left == 0).map fun w => w.target.named).Nodup → ∃ t, landWrites s = .next t)

/-- At the end of a cycle a SAT set wins over a CSR write, and a request wins over an ICR clear (R43, R410, R41, R343, R37,
R409). -/
def Obligations.RequestBeatsClear : Prop :=
  ∀ (s t : State) (requests : Word), landPhase s requests = .next t →
    (0 ∈ s.flight.psat → t.ctrl.csr.getLsbD 9 = true) ∧
    (∀ n, (n = 1 ∨ 4 ≤ n ∧ n ≤ 15) → requests.getLsbD n = true → t.ctrl.ifr.getLsbD n = true) ∧
    ((∀ w ∈ s.flight.pw, w.left = 0 → ∀ c, w.target ≠ .ctrl c) → ∀ n, ¬ ((n = 1 ∨ 4 ≤ n ∧ n ≤ 15) ∧ requests.getLsbD n = true) →
      t.ctrl.ifr.getLsbD n = s.ctrl.ifr.getLsbD n)

/-- A result with d delay slots is readable after d + 1 steps, its SAT one step later, neither sooner (R157, R409, R155). -/
def Obligations.ResultAndSatTiming : Prop :=
  ∀ (s : State) (side : Side) (r : RegNum) (v : Word) (d k : Nat), s.waiting →
    s.flight.pw = [⟨.gpr side r, v, d⟩] → s.flight.psat = [d + 1] →
    s.flight.pb = [] → s.flight.pmLoads = [] → s.flight.pmStores = [] →
    ∃ t : State, Host.Core.run Sys2Proof.core k s = .next t ∧
      t.gpr side r = (if k ≤ d then s.gpr side r else v) ∧
      t.ctrl.csr.getLsbD 9 = (if k ≤ d + 1 then s.ctrl.csr.getLsbD 9 else true) ∧
      ∀ side' r', ¬ (side' = side ∧ r' = r) → t.gpr side' r' = s.gpr side' r'

/-- A load reads memory in its own cycle and its register, or pair, changes after exactly four delay slots (R412, R157, R95,
R288, R298). The access is performed in the load's own cycle, as R95 permits: log 7 (DESIGN CHOICE). -/
def Obligations.LoadedValueLandsAfterFourSlots : Prop :=
  ∀ (s : State) (a : Word) (z : Access) (g : Bool) (side : Side) (r : RegNum) (k : Nat), s.waiting →
    s.flight.pmLoads = [⟨a, z, g, side, r, 0⟩] → s.accessible a z = true →
    s.flight.pw = [] → s.flight.psat = [] → s.flight.pb = [] → s.flight.pmStores = [] →
    ∃ t : State, Host.Core.run Sys2Proof.core k s = .next t ∧
      t.gpr side r =
        (if k ≤ 4 then s.gpr side r else loadValue z g (memRead s.params.endian s.mem a.toNat z.bytes)) ∧
      (z = .dword → t.gpr side (r + 1) = if k ≤ 4 then s.gpr side (r + 1)
        else BitVec.ofNat 32 (memRead s.params.endian s.mem a.toNat 8 / 2 ^ 32)) ∧
      ∀ side' r', ¬ (side' = side ∧ (r' = r ∨ (z = .dword ∧ r' = r + 1))) → t.gpr side' r' = s.gpr side' r'

/-- What a load makes of the bytes in memory, in both byte orders (R83, R84, R290-R294, R298). -/
def Obligations.LoadedValueFromBytes : Prop :=
  ∀ (m : Memory) (a : Nat),
    let b := fun i => readByte m (a + i)
    (∀ e, loadValue .byte true (memRead e m a 1) = (b 0).signExtend 32) ∧
    (∀ e, loadValue .byte false (memRead e m a 1) = (b 0).setWidth 32) ∧
    loadValue .half true (memRead .little m a 2) = (b 1 ++ b 0).signExtend 32 ∧
    loadValue .half true (memRead .big m a 2) = (b 0 ++ b 1).signExtend 32 ∧
    loadValue .half false (memRead .little m a 2) = (b 1 ++ b 0).setWidth 32 ∧
    loadValue .half false (memRead .big m a 2) = (b 0 ++ b 1).setWidth 32 ∧
    loadValue .word false (memRead .little m a 4) = b 3 ++ b 2 ++ b 1 ++ b 0 ∧
    loadValue .word false (memRead .big m a 4) = b 0 ++ b 1 ++ b 2 ++ b 3 ∧
    ∀ (s : State) (l : Load), s.mem = m → l.addr.toNat = a → l.size = .dword →
      (loadWrites s l).map (fun w => (w.target, w.value)) = match s.params.endian with
        | .little => [(.gpr l.side l.dst, b 3 ++ b 2 ++ b 1 ++ b 0), (.gpr l.side (l.dst + 1), b 7 ++ b 6 ++ b 5 ++ b 4)]
        | .big => [(.gpr l.side l.dst, b 4 ++ b 5 ++ b 6 ++ b 7), (.gpr l.side (l.dst + 1), b 0 ++ b 1 ++ b 2 ++ b 3)]

/-- MemWrite then MemRead gives the value; every byte outside the access is unchanged (R84, R80, R82). -/
def Obligations.MemoryReadsBackWhatWasWritten : Prop :=
  ∀ (e : Endian) (m : Memory) (a n v : Nat), m.wf = true → a + n ≤ 2 ^ 32 →
    memRead e (memWrite e m a n v) a n = v % 2 ^ (8 * n) ∧ (memWrite e m a n v).wf = true ∧
    ∀ b, (b < a ∨ a + n ≤ b) → readByte (memWrite e m a n v) b = readByte m b

/-- A store alone in a cycle writes its bytes and no other; outside data memory it has no step (R93, R95, R288, R83, R84).
The access is performed in the store's own cycle (log 7), and all its bytes must be data memory (log 24): both the
model's choice. -/
def Obligations.StoreReachesMemory : Prop :=
  ∀ (s : State) (a v : Word) (z : Access), s.mem.wf = true → s.flight.pmLoads = [] → s.flight.pmStores = [] →
    aligned z a = true →
    (s.accessible a z = true → ∃ t, memPhase (s.pendStore a z v) = .next t ∧
      memRead s.params.endian t.mem a.toNat z.bytes = v.toNat % 2 ^ (8 * z.bytes) ∧
      (∀ b, (b < a.toNat ∨ a.toNat + z.bytes ≤ b) → readByte t.mem b = readByte s.mem b) ∧
      t.regs = s.regs ∧ t.ctrl = s.ctrl ∧ t.flight = s.flight) ∧
    ((∃ k < z.bytes, kindAt s.params.memmap (a.toNat + k) ≠ some .data) →
      memPhase (s.pendStore a z v) = .fault .stuckData)

/-- In one packet loads read before stores write; two overlapping stores fault (R95, R93, R298, R412). All bytes of an
access must be data memory: log 24 (DEDUCED). Overlapping stores outside data memory, which the statement does not speak
of: log 30. -/
def Obligations.LoadsReadBeforeStoresOfPacket : Prop :=
  ∀ (s : State) (a b v w : Word) (z y : Access) (g : Bool) (side : Side) (r : RegNum),
    s.flight.pmLoads = [] → s.flight.pmStores = [] → s.accessible a z = true → s.accessible b y = true →
    (∃ t, memPhase ((s.pendLoad a z g side r).pendStore b y v) = .next t ∧
      t.flight.pw = s.flight.pw ++
        ⟨.gpr side r, loadValue z g (memRead s.params.endian s.mem a.toNat z.bytes), 4⟩ ::
        (if z = .dword then
          [⟨.gpr side (r + 1), BitVec.ofNat 32 (memRead s.params.endian s.mem a.toNat 8 / 2 ^ 32), 4⟩] else []) ∧
      t.mem = memWrite s.params.endian s.mem b.toNat y.bytes v.toNat) ∧
    ((∃ c, a.toNat ≤ c ∧ c < a.toNat + z.bytes ∧ b.toNat ≤ c ∧ c < b.toNat + y.bytes) →
      memPhase ((s.pendStore a z v).pendStore b y w) = .fault .parallelStoreConflict) ∧
    ((a.toNat + z.bytes ≤ b.toNat ∨ b.toNat + y.bytes ≤ a.toNat) →
      ∃ t, memPhase ((s.pendStore a z v).pendStore b y w) = .next t ∧
        t.mem = memWrite s.params.endian (memWrite s.params.endian s.mem a.toNat z.bytes v.toNat) b.toNat y.bytes w.toNat)

/-- A branch that lands sets pc, drops the rest of a NOP, and returns from an interrupt as its kind says (R155 step 6, R214,
R216, R217, R356, R357, R165). -/
def Obligations.BranchLands : Prop :=
  ∀ (s : State) (next : Word),
    ((∀ b ∈ s.flight.pb, b.left ≠ 0) → branchPhase s next = .next { s with
      pc := next, flight := { s.flight with pb := s.flight.pb.map fun b => { b with left := b.left - 1 } } }) ∧
    (∀ xs b ys, s.flight.pb = xs ++ b :: ys → b.left = 0 → (∀ c ∈ xs ++ ys, c.left ≠ 0) →
      ∃ t, branchPhase s next = .next t ∧ t.pc = b.target ∧ t.flight.nopcnt = 0 ∧ t.flight.nopreq = 0 ∧
        t.flight.pb = (xs ++ ys).map (fun c => { c with left := c.left - 1 }) ∧ t.regs = s.regs ∧ t.mem = s.mem ∧
        (b.kind = .plain → t.ctrl = s.ctrl) ∧
        (b.kind = .irp → t.ctrl = { s.ctrl with csr := t.ctrl.csr } ∧
          ∀ j < 32, t.ctrl.csr.getLsbD j = s.ctrl.csr.getLsbD (if j = 0 then 1 else j)) ∧
        (b.kind = .nrp → t.ctrl = { s.ctrl with ier := t.ctrl.ier } ∧
          ∀ j < 32, t.ctrl.ier.getLsbD j = (decide (j = 1) || s.ctrl.ier.getLsbD j))) ∧
    (∀ xs b ys c zs, s.flight.pb = xs ++ b :: ys ++ c :: zs → b.left = 0 → c.left = 0 →
      branchPhase s next = .fault .branchConflict)

/-- Reset comes first, then the NMI, then INT4 to INT15 in order; the step takes what comes first (R343, R348, R349, R350,
R391). That a reset is a whole step is the model's choice: log 26; that the input list says whether the environment
holds the interrupt back: log 6 (both DESIGN CHOICE). -/
def Obligations.InterruptPriorityOrder : Prop :=
  ∀ s : State,
    (s.input.reset = true → step s = .next (resetEntry s.advanceEnv)) ∧
    (∀ n, s.input.reset = false → s.input.hold = false →
      readyInterrupt (raiseFlags s.advanceEnv s.input.requests) = some n →
      step s = takeInterrupt n s.input.requests (raiseFlags s.advanceEnv s.input.requests)) ∧
    ∀ n, readyInterrupt s = some n ↔
      s.flight.bshadow = 0 ∧ s.ctrl.ier.getLsbD 1 = true ∧
      ((n = 1 ∧ s.ctrl.ifr.getLsbD 1 = true) ∨
       (s.ctrl.ifr.getLsbD 1 = false ∧ 4 ≤ n ∧ n ≤ 15 ∧ s.ctrl.csr.getLsbD 0 = true ∧
        s.ctrl.ifr.getLsbD n = true ∧ s.ctrl.ier.getLsbD n = true ∧
        ∀ m, 4 ≤ m → m < n → ¬ (s.ctrl.ifr.getLsbD m = true ∧ s.ctrl.ier.getLsbD m = true)))

/-- In an idle machine (no input, NMIE 0) B IRP and B NRP reach the saved pc after five delay slots and restore GIE or NMIE
(R155, R166, R216, R217, R356, R357). -/
def Obligations.ReturnsLandAfterFiveSlots : Prop :=
  ∀ (s : State) (o : CondForm) (k : Nat), s.waiting → s.flight.drained = true → s.flight.pb = [] → k ≤ 6 →
    (ready s (.bIrp o) → s.ctrl.irp.toNat % 4 = 0 → ∃ u t : State, exec (.bIrp o) s = .next u ∧
      Host.Core.run Sys2Proof.core k u = .next t ∧ t.regs = s.regs ∧ t.mem = s.mem ∧
      (k < 6 → t.pc = s.pc ∧ t.ctrl = s.ctrl) ∧
      (k = 6 → t.pc = s.ctrl.irp ∧ t.ctrl = { s.ctrl with csr := t.ctrl.csr } ∧
        ∀ j < 32, t.ctrl.csr.getLsbD j = s.ctrl.csr.getLsbD (if j = 0 then 1 else j))) ∧
    (ready s (.bNrp o) → s.ctrl.nrp.toNat % 4 = 0 → ∃ u t : State, exec (.bNrp o) s = .next u ∧
      Host.Core.run Sys2Proof.core k u = .next t ∧ t.regs = s.regs ∧ t.mem = s.mem ∧
      (k < 6 → t.pc = s.pc ∧ t.ctrl = s.ctrl) ∧
      (k = 6 → t.pc = s.ctrl.nrp ∧ t.ctrl = { s.ctrl with ier := t.ctrl.ier } ∧
        ∀ j < 32, t.ctrl.ier.getLsbD j = (decide (j = 1) || s.ctrl.ier.getLsbD j)))

/-- Entry to a maskable interrupt: what is saved, what changes, and where execution goes (R352, R345). -/
def Obligations.MaskableInterruptEntry : Prop :=
  ∀ (s : State) (n : Nat) (requests : Word), 4 ≤ n → n ≤ 15 → s.flight.drained = true →
    ∃ t, takeInterrupt n requests s = .next t ∧
      t.pc.toNat = (s.ctrl.istb.toNat * 1024 + 32 * n) % 2 ^ 32 ∧
      t.flight = { s.flight with nopcnt := 0, idle := false } ∧
      t.regs = s.regs ∧ t.mem = s.mem ∧ t.params = s.params ∧
      t.ctrl = { s.ctrl with ifr := t.ctrl.ifr, csr := t.ctrl.csr, irp := s.pc } ∧
      ∀ j < 32, t.ctrl.ifr.getLsbD j = (!decide (j = n) && s.ctrl.ifr.getLsbD j) ∧
        t.ctrl.csr.getLsbD j =
          if j = 0 then false else if j = 1 then s.ctrl.csr.getLsbD 0 else s.ctrl.csr.getLsbD j

/-- Entry to the NMI: what is saved, what changes, and where execution goes (R353, R345). -/
def Obligations.NonMaskableInterruptEntry : Prop :=
  ∀ (s : State) (n : Nat) (requests : Word), n = 1 → s.flight.drained = true →
    ∃ t, takeInterrupt n requests s = .next t ∧
      t.pc.toNat = (s.ctrl.istb.toNat * 1024 + 32 * n) % 2 ^ 32 ∧
      t.flight = { s.flight with nopcnt := 0, idle := false } ∧
      t.regs = s.regs ∧ t.mem = s.mem ∧ t.params = s.params ∧
      t.ctrl = { s.ctrl with ifr := t.ctrl.ifr, ier := t.ctrl.ier, nrp := s.pc } ∧
      ∀ j < 32, t.ctrl.ifr.getLsbD j = (!decide (j = 1) && s.ctrl.ifr.getLsbD j) ∧
        t.ctrl.ier.getLsbD j = (!decide (j = 1) && s.ctrl.ier.getLsbD j)

/-- An interrupt is taken only after everything in flight has landed (R351, R352, R353, R95, R298, R409, R410). The drain
and the entry are one step, and a pending load or store touches memory when its counter is 0: R351, log 7, log 20.
Requests of the cycle are raised again after each landing: log 15 (DESIGN CHOICE). -/
def Obligations.InterruptDrainsWhatIsInFlight : Prop :=
  ∀ (s t : State) (n : Nat) (requests : Word), takeInterrupt n requests s = .next t →
    t.flight.drained = true ∧ t.flight.pb = s.flight.pb ∧ t.params = s.params ∧
    (n = 1 → t.ctrl.nrp = s.pc) ∧ (n ≠ 1 → t.ctrl.irp = s.pc) ∧
    (∀ side r, (∀ w ∈ s.flight.pw, w.target ≠ .gpr side r) → (∀ l ∈ s.flight.pmLoads, ¬ l.lands side r) →
      t.gpr side r = s.gpr side r) ∧
    (∀ xs w ys side r, s.flight.pw = xs ++ w :: ys → w.target = .gpr side r →
      (∀ u ∈ xs ++ ys, u.target = .gpr side r → u.left < w.left) →
      (∀ l ∈ s.flight.pmLoads, l.lands side r → l.left + 4 < w.left) → t.gpr side r = w.value) ∧
    (∀ xs l ys, s.flight.pmLoads = xs ++ l :: ys → s.flight.pmStores = [] →
      let v := memRead s.params.endian s.mem l.addr.toNat l.size.bytes
      let alone := fun r => (∀ w ∈ s.flight.pw, w.target ≠ .gpr l.side r) ∧ ∀ m ∈ xs ++ ys, ¬ m.lands l.side r
      (alone l.dst → t.gpr l.side l.dst = loadValue l.size l.signed v) ∧
      (l.size = .dword → alone (l.dst + 1) → t.gpr l.side (l.dst + 1) = BitVec.ofNat 32 (v / 2 ^ 32))) ∧
    (memoryInv s → ∀ xs u ys, s.flight.pmStores = xs ++ u :: ys →
      (∀ x ∈ xs ++ ys, ∀ b, ¬ (u.covers b ∧ x.covers b)) →
      memRead s.params.endian t.mem u.addr.toNat u.size.bytes = u.value.toNat % 2 ^ (8 * u.size.bytes)) ∧
    (∀ b, (∀ u ∈ s.flight.pmStores, ¬ u.covers b) → readByte t.mem b = readByte s.mem b) ∧
    ((∀ w ∈ s.flight.pw, w.target ≠ .ctrl .csr) →
      t.ctrl.csr.getLsbD 9 = (s.ctrl.csr.getLsbD 9 || !s.flight.psat.isEmpty)) ∧
    (∀ xs w ys, s.flight.pw = xs ++ w :: ys → (∀ u ∈ xs ++ ys, ∀ c, u.target ≠ .ctrl c) →
      ∀ j, 4 ≤ j → j ≤ 15 → j ≠ n →
      (w.target = .ctrl .isr →
        t.ctrl.ifr.getLsbD j = (s.ctrl.ifr.getLsbD j || w.value.getLsbD j || requests.getLsbD j)) ∧
      (w.target = .ctrl .icr →
        t.ctrl.ifr.getLsbD j = ((s.ctrl.ifr.getLsbD j && !w.value.getLsbD j) || requests.getLsbD j)))

/-- No branch is in flight when an interrupt is taken (R350, R54). -/
def Obligations.NoBranchPendsWhenInterruptIsTaken : Prop :=
  ∀ (s : State) (n : Nat), shadowInv s → readyInterrupt (raiseFlags s.advanceEnv s.input.requests) = some n →
    s.flight.pb = [] ∧
    ∀ t, s.input.reset = false → s.input.hold = false → step s = .next t → t.flight.pb = []

/-- Reset: what the step in which the environment asserts reset leaves (R391, R354, R393, R55). That a reset takes a whole
step and drops the requests of its cycle is the model's choice: log 26. -/
def Obligations.ResetEntryValues : Prop :=
  ∀ s : State, s.input.reset = true → ∃ t, step s = .next t ∧
    t.ctrl.amr = 0 ∧ t.ctrl.ifr = 0 ∧ t.ctrl.istb = 0 ∧ t.ctrl.ier = 1 ∧
    t.ctrl.fadcr = 0 ∧ t.ctrl.faucr = 0 ∧ t.ctrl.fmcr = 0 ∧
    t.ctrl.csr.extractLsb' 24 8 = s.params.cpuId ∧ t.ctrl.csr.extractLsb' 16 8 = s.params.revId ∧
    t.ctrl.csr.extractLsb' 9 7 = 0 ∧ t.ctrl.csr.getLsbD 8 = decide (s.params.endian = .little) ∧
    t.ctrl.csr.extractLsb' 0 8 = 0 ∧ t.pc = 0 ∧ t.pce1 = 0 ∧
    t.flight.pw = [] ∧ t.flight.pb = [] ∧ t.flight.pmLoads = [] ∧ t.flight.pmStores = [] ∧ t.flight.psat = [] ∧
    t.flight.nopcnt = 0 ∧ t.flight.idle = false ∧ t.flight.bshadow = 0 ∧
    t.mem = s.mem ∧ t.params = s.params

/-- The state after reset has the values the spec gives (R55, R38, R391). -/
def Obligations.ResetStateValues : Prop :=
  State.reset.ctrl.amr = 0 ∧ State.reset.ctrl.ifr = 0 ∧ istpWord State.reset.ctrl = 0 ∧ State.reset.ctrl.ier = 1 ∧
  State.reset.ctrl.csr &&& 0x0000FEFF = 0 ∧ State.reset.ctrl.fadcr = 0 ∧ State.reset.ctrl.faucr = 0 ∧
  State.reset.ctrl.fmcr = 0 ∧ State.reset.pc = 0 ∧ State.reset.pce1 = 0 ∧ State.reset.settled ∧
  State.reset.flight.bshadow = 0

/-- A step runs exactly the instruction that the word at pc decodes to (R155, R150-R154, R32, R84). The byte order of an
instruction word follows ENDIAN: log 17. -/
def Obligations.StepRunsDecodedInstruction : Prop :=
  ∀ (s : State) (i : Instr), s.undisturbed → s.flight.idle = false → s.flight.nopcnt = 0 →
    s.pc.toNat % 4 = 0 → s.fetchable s.pc.toNat = true → s.crosses (fetchPacket s.pc).toNat = false →
    decode (s.wordAt s.pc.toNat) = .ok i → flag (s.wordAt s.pc.toNat) 0 = false →
    step s = andThen
      (exec i { raiseFlags s.advanceEnv s.input.requests with pce1 := s.pc &&& 0xFFFFFFE0 })
      (endOfCycle s.input.requests (s.pc + 4) i.demand.branch)

/-- An instruction that writes one register with no delay slot has done so, and nothing else, after one step (R155, R157,
R406, R414). -/
def Obligations.RegisterResultAfterOneStep : Prop :=
  ∀ (s : State) (i : Instr) (side : Side) (r : RegNum) (v : Word), s.settled → s.undisturbed → s.input.requests = 0 →
    fetch s = .ok [i] →
    (∀ u : State, u.regs = s.regs → u.ctrl = s.ctrl → u.params = s.params → u.pce1 = fetchPacket s.pc →
      exec i u = .next (u.putWord side r v 0)) →
    ∃ t, step s = .next t ∧ t.gpr side r = v ∧
      (∀ side' r', ¬ (side' = side ∧ r' = r) → t.gpr side' r' = s.gpr side' r') ∧
      t.ctrl = s.ctrl ∧ t.mem = s.mem ∧ t.pc = s.pc + 4 ∧ t.pce1 = fetchPacket s.pc

/-- A cycle of a multi-cycle NOP or of the idle state executes no packet (R165, R166, R155). That PCE1 stays in such a cycle
is the model's choice: log 23. -/
def Obligations.NopAndIdleCycles : Prop :=
  ∀ (s : State) (k : Nat), s.undisturbed → s.flight.drained = true → s.flight.pb = [] →
    s.flight.nopreq = 0 → s.flight.idlereq = false →
    (s.flight.idle = true → ∃ t, step s = .next t ∧ t.flight.idle = true ∧ t.pc = s.pc ∧ t.pce1 = s.pce1 ∧
      t.regs = s.regs ∧ t.mem = s.mem) ∧
    (s.flight.idle = false → s.flight.nopcnt = k + 1 → ∃ t, step s = .next t ∧ t.flight.nopcnt = k ∧ t.pc = s.pc ∧
      t.pce1 = s.pce1 ∧ t.regs = s.regs ∧ t.mem = s.mem)

/-- The execute packet is the run of words from pc up to the first with p = 0, within its fetch packet (R154). -/
def Obligations.FetchReadsWholePacket : Prop :=
  ∀ (s : State) (ep : List Instr), fetch s = .ok ep →
    1 ≤ ep.length ∧ s.pc.toNat % 32 + 4 * ep.length ≤ 32 ∧
    ∀ (k : Nat) (h : k < ep.length), s.fetchable (s.pc.toNat + 4 * k) = true ∧
      decode (s.wordAt (s.pc.toNat + 4 * k)) = .ok ep[k] ∧
      flag (s.wordAt (s.pc.toNat + 4 * k)) 0 = decide (k + 1 < ep.length)

/-- What stops a fetch: misaligned pc, no program memory, an eighth word with p = 1, a reserved word (R92, R86, R153, R128).
The order of the stops is the model's: log 31. A misaligned pc, which no run reaches, stops under the name of a
misaligned target: log 29; that the eighth word counts only when it is program memory: log 13 (DESIGN CHOICE). -/
def Obligations.FetchStops : Prop :=
  ∀ s : State, s.undisturbed → s.flight.idle = false → s.flight.nopcnt = 0 →
    (s.pc.toNat % 4 ≠ 0 → step s = .fault .misalignedBranchTarget) ∧
    (s.pc.toNat % 4 = 0 → s.fetchable s.pc.toNat = false → step s = .fault .stuckFetch) ∧
    (s.pc.toNat % 4 = 0 → s.fetchable s.pc.toNat = true → s.crosses (fetchPacket s.pc).toNat = true →
      step s = .fault .executePacketCrossesFetchPacket) ∧
    (s.pc.toNat % 4 = 0 → s.fetchable s.pc.toNat = true → s.crosses (fetchPacket s.pc).toNat = false →
      ∀ e, decode (s.wordAt s.pc.toNat) = .error e → step s = .fault .reservedEncoding)

/-- An execute packet that breaks a resource constraint faults; one instruction alone never does (R162, R157, R160, R161,
R155 step 3). A long source counts as one read of each register of its pair: log 21; which of its two names the stop of
item 6 has: log 12 (both DEDUCED). -/
def Obligations.ResourceConflictsFault : Prop :=
  (∀ (i : Instr) (s : State), packetOk s [i] = true) ∧
  ∀ (r : Word) (s : State) (xs ys zs : List Instr) (i j : Instr),
    (∀ x ∈ landings i.demand, x ∈ landings j.demand →
      (∀ c, ¬ (i.demand.cond = .ifZero c ∧ j.demand.cond = .ifNonzero c) ∧
        ¬ (i.demand.cond = .ifNonzero c ∧ j.demand.cond = .ifZero c)) →
      (condHolds s i.demand.cond = false ∨ condHolds s j.demand.cond = false →
        runPacket r (xs ++ i :: ys ++ j :: zs) s = .fault .resourceConflict) ∧
      ∀ t, runPacket r (xs ++ i :: ys ++ j :: zs) s ≠ .next t) ∧
    let long := fun (side : Side) (l : List RegUse) => ∃ u ∈ l, u.side = side ∧ u.size = .long
    ((i.demand.unit ≠ none ∧ i.demand.unit = j.demand.unit) ∨
     (i.demand.cross ≠ none ∧ i.demand.cross = j.demand.cross) ∨
     (∃ d e, i.demand.data = some d ∧ j.demand.data = some e ∧ d.side = e.side) ∨
     (∃ side, long side i.demand.writes ∧ long side j.demand.writes) ∨
     (∃ side, long side i.demand.reads ∧ long side j.demand.reads) ∨
     (∃ d, long d.side i.demand.reads ∧ j.demand.data = some d ∧ d.store = true) ∨
     (∃ d, long d.side j.demand.reads ∧ i.demand.data = some d ∧ d.store = true) ∨
     (∃ q, 4 < ((xs ++ i :: ys ++ j :: zs).flatMap fun k => k.demand.reads.flatMap RegUse.regs).count q)) →
    runPacket r (xs ++ i :: ys ++ j :: zs) s = .fault .resourceConflict

/-- No step changes a byte outside data memory, or the launch parameters (R93, R100, R393, R8). -/
def Obligations.OnlyDataMemoryChanges : Prop :=
  ∀ s t : State, step s = .next t → t.params = s.params ∧
    ∀ a, kindAt s.params.memmap a ≠ some .data → readByte t.mem a = readByte s.mem a

/-- NMIE goes from 1 to 0 only by reset or by taking the NMI (R44, R353, R391). -/
def Obligations.OnlyResetOrNmiClearsNmie : Prop :=
  ∀ s t : State, step s = .next t → s.ctrl.ier.getLsbD 1 = true → t.ctrl.ier.getLsbD 1 = false →
    s.input.reset = true ∨
    (s.input.reset = false ∧ readyInterrupt (raiseFlags s.advanceEnv s.input.requests) = some 1 ∧ t.ctrl.nrp = s.pc)

/-- Every step keeps the canonical form of memory and the alignment of pending stores (R80, R85, R93, R95). -/
def Obligations.EveryStepKeepsMemoryForm : Prop :=
  ∀ s t : State, memoryInv s → step s = .next t → memoryInv t

/-- Every step keeps pc and branch targets multiples of 4 and PCE1 a multiple of 32 (R32, R33, R86, R214-R217, R345). -/
def Obligations.EveryStepKeepsFetchAlignment : Prop :=
  ∀ s t : State, fetchInv s → step s = .next t → fetchInv t

/-- Every step keeps the reserved and read-only bits of the control registers as the spec says (R37, R38, R41, R44, R50,
R51, R52). -/
def Obligations.EveryStepKeepsReservedControlBits : Prop :=
  ∀ s t : State, controlInv s → step s = .next t → controlInv t

/-- Every step keeps every pending branch inside the branch shadow (R54, R350, R155). -/
def Obligations.EveryStepKeepsBranchShadow : Prop :=
  ∀ s t : State, shadowInv s → step s = .next t → shadowInv t

/-- The state after reset has the four invariants (R55, R391). -/
def Obligations.ResetStateHasInvariants : Prop :=
  memoryInv State.reset ∧ fetchInv State.reset ∧ controlInv State.reset ∧ shadowInv State.reset
end

