-- ==== Sys2Proof/Laws/Encoding.lean ====
section
/-! SUPPORT. The fields of an encoded word, read back one by one, for each layout of the encoder; so that no proof about decoding
unfolds a layout. -/
namespace Sys2Proof

set_option Elab.async false

@[simp] theorem condOf_code (c : Cond) : condOf c.code = .ok c := by
  cases c with
  | always => rfl
  | ifNonzero r => cases r <;> rfl
  | ifZero r => cases r <;> rfl

@[simp] theorem Side.ofBit_toBit (s : Side) : Side.ofBit s.toBit = s := by cases s <;> rfl

@[simp] theorem Side.toBit_a : Side.a.toBit = false := rfl
@[simp] theorem Side.toBit_b : Side.b.toBit = true := rfl
@[simp] theorem bit_false : bit false = 0#1 := rfl
@[simp] theorem bit_true : bit true = 1#1 := rfl

@[simp] theorem bit_getElem (b : Bool) (h : 0 < 1) : (bit b)[0] = b := by cases b <;> simp [bit]

@[simp] theorem bit_getLsbD (b : Bool) (i : Nat) : (bit b).getLsbD i = (decide (i = 0) && b) := by
  cases i <;> cases b <;> simp [bit]

@[simp] theorem modeOf_code (m : AddrMode) : modeOf m.code m.offset.field = .ok m := by
  obtain ⟨u, o, a⟩ := m
  cases u <;> cases o <;> cases a <;> rfl

/-! ### Formats L, M, S and D -/

@[simp] theorem word3_field_28_4 (c : Cond) (d s2 s1 : BitVec 5) (x : Bool) (op : BitVec 10) (s : Side) (p : Bool) : field (word3 c d s2 s1 x op s p) 28 4 = c.code := by
  apply BitVec.eq_of_getLsbD_eq
  intro i hi
  interval_cases i <;> (simp only [field, word3, BitVec.getLsbD_extractLsb', BitVec.getLsbD_append]; simp)

@[simp] theorem word3_field_23_5 (c : Cond) (d s2 s1 : BitVec 5) (x : Bool) (op : BitVec 10) (s : Side) (p : Bool) : field (word3 c d s2 s1 x op s p) 23 5 = d := by
  apply BitVec.eq_of_getLsbD_eq
  intro i hi
  interval_cases i <;> (simp only [field, word3, BitVec.getLsbD_extractLsb', BitVec.getLsbD_append]; simp)

@[simp] theorem word3_field_18_5 (c : Cond) (d s2 s1 : BitVec 5) (x : Bool) (op : BitVec 10) (s : Side) (p : Bool) : field (word3 c d s2 s1 x op s p) 18 5 = s2 := by
  apply BitVec.eq_of_getLsbD_eq
  intro i hi
  interval_cases i <;> (simp only [field, word3, BitVec.getLsbD_extractLsb', BitVec.getLsbD_append]; simp)

@[simp] theorem word3_field_13_5 (c : Cond) (d s2 s1 : BitVec 5) (x : Bool) (op : BitVec 10) (s : Side) (p : Bool) : field (word3 c d s2 s1 x op s p) 13 5 = s1 := by
  apply BitVec.eq_of_getLsbD_eq
  intro i hi
  interval_cases i <;> (simp only [field, word3, BitVec.getLsbD_extractLsb', BitVec.getLsbD_append]; simp)

@[simp] theorem word3_field_12_6 (c : Cond) (d s2 s1 : BitVec 5) (x : Bool) (op : BitVec 10) (s : Side) (p : Bool) : field (word3 c d s2 s1 x op s p) 12 6 = s1 ++ bit x := by
  apply BitVec.eq_of_getLsbD_eq
  intro i hi
  interval_cases i <;> (simp only [field, word3, BitVec.getLsbD_extractLsb', BitVec.getLsbD_append]; simp)

@[simp] theorem word3_field_2_11 (c : Cond) (d s2 s1 : BitVec 5) (x : Bool) (op : BitVec 10) (s : Side) (p : Bool) : field (word3 c d s2 s1 x op s p) 2 11 = bit x ++ op := by
  apply BitVec.eq_of_getLsbD_eq
  intro i hi
  interval_cases i <;> (simp only [field, word3, BitVec.getLsbD_extractLsb', BitVec.getLsbD_append]; simp)

@[simp] theorem word3_field_2_2 (c : Cond) (d s2 s1 : BitVec 5) (x : Bool) (op : BitVec 10) (s : Side) (p : Bool) : field (word3 c d s2 s1 x op s p) 2 2 = op.extractLsb' 0 2 := by
  apply BitVec.eq_of_getLsbD_eq
  intro i hi
  interval_cases i <;> (simp only [field, word3, BitVec.getLsbD_extractLsb', BitVec.getLsbD_append]; simp)

@[simp] theorem word3_field_4_2 (c : Cond) (d s2 s1 : BitVec 5) (x : Bool) (op : BitVec 10) (s : Side) (p : Bool) : field (word3 c d s2 s1 x op s p) 4 2 = op.extractLsb' 2 2 := by
  apply BitVec.eq_of_getLsbD_eq
  intro i hi
  interval_cases i <;> (simp only [field, word3, BitVec.getLsbD_extractLsb', BitVec.getLsbD_append]; simp)

@[simp] theorem word3_field_4_3 (c : Cond) (d s2 s1 : BitVec 5) (x : Bool) (op : BitVec 10) (s : Side) (p : Bool) : field (word3 c d s2 s1 x op s p) 4 3 = op.extractLsb' 2 3 := by
  apply BitVec.eq_of_getLsbD_eq
  intro i hi
  interval_cases i <;> (simp only [field, word3, BitVec.getLsbD_extractLsb', BitVec.getLsbD_append]; simp)

@[simp] theorem word3_field_5_7 (c : Cond) (d s2 s1 : BitVec 5) (x : Bool) (op : BitVec 10) (s : Side) (p : Bool) : field (word3 c d s2 s1 x op s p) 5 7 = op.extractLsb' 3 7 := by
  apply BitVec.eq_of_getLsbD_eq
  intro i hi
  interval_cases i <;> (simp only [field, word3, BitVec.getLsbD_extractLsb', BitVec.getLsbD_append]; simp)

@[simp] theorem word3_field_6_6 (c : Cond) (d s2 s1 : BitVec 5) (x : Bool) (op : BitVec 10) (s : Side) (p : Bool) : field (word3 c d s2 s1 x op s p) 6 6 = op.extractLsb' 4 6 := by
  apply BitVec.eq_of_getLsbD_eq
  intro i hi
  interval_cases i <;> (simp only [field, word3, BitVec.getLsbD_extractLsb', BitVec.getLsbD_append]; simp)

@[simp] theorem word3_field_7_5 (c : Cond) (d s2 s1 : BitVec 5) (x : Bool) (op : BitVec 10) (s : Side) (p : Bool) : field (word3 c d s2 s1 x op s p) 7 5 = op.extractLsb' 5 5 := by
  apply BitVec.eq_of_getLsbD_eq
  intro i hi
  interval_cases i <;> (simp only [field, word3, BitVec.getLsbD_extractLsb', BitVec.getLsbD_append]; simp)

@[simp] theorem word3_field_7_6 (c : Cond) (d s2 s1 : BitVec 5) (x : Bool) (op : BitVec 10) (s : Side) (p : Bool) : field (word3 c d s2 s1 x op s p) 7 6 = bit x ++ op.extractLsb' 5 5 := by
  apply BitVec.eq_of_getLsbD_eq
  intro i hi
  interval_cases i <;> (simp only [field, word3, BitVec.getLsbD_extractLsb', BitVec.getLsbD_append]; simp)

@[simp] theorem word3_flag_12 (c : Cond) (d s2 s1 : BitVec 5) (x : Bool) (op : BitVec 10) (s : Side) (p : Bool) : flag (word3 c d s2 s1 x op s p) 12 = x := by
  simp only [flag, word3, BitVec.getLsbD_append]; simp

@[simp] theorem word3_flag_1 (c : Cond) (d s2 s1 : BitVec 5) (x : Bool) (op : BitVec 10) (s : Side) (p : Bool) : flag (word3 c d s2 s1 x op s p) 1 = s.toBit := by
  simp only [flag, word3, BitVec.getLsbD_append]; simp

@[simp] theorem word3_flag_0 (c : Cond) (d s2 s1 : BitVec 5) (x : Bool) (op : BitVec 10) (s : Side) (p : Bool) : flag (word3 c d s2 s1 x op s p) 0 = p := by
  simp only [flag, word3, BitVec.getLsbD_append]; simp

/-! ### Format FIELD -/

@[simp] theorem fieldWord_field_28_4 (o : FieldForm) (op : BitVec 2) : field (o.word op) 28 4 = o.cond.code := by
  apply BitVec.eq_of_getLsbD_eq
  intro i hi
  interval_cases i <;> (simp only [field, FieldForm.word, BitVec.getLsbD_extractLsb', BitVec.getLsbD_append]; simp)

@[simp] theorem fieldWord_field_23_5 (o : FieldForm) (op : BitVec 2) : field (o.word op) 23 5 = o.dst := by
  apply BitVec.eq_of_getLsbD_eq
  intro i hi
  interval_cases i <;> (simp only [field, FieldForm.word, BitVec.getLsbD_extractLsb', BitVec.getLsbD_append]; simp)

@[simp] theorem fieldWord_field_18_5 (o : FieldForm) (op : BitVec 2) : field (o.word op) 18 5 = o.src2 := by
  apply BitVec.eq_of_getLsbD_eq
  intro i hi
  interval_cases i <;> (simp only [field, FieldForm.word, BitVec.getLsbD_extractLsb', BitVec.getLsbD_append]; simp)

@[simp] theorem fieldWord_field_13_5 (o : FieldForm) (op : BitVec 2) : field (o.word op) 13 5 = o.csta := by
  apply BitVec.eq_of_getLsbD_eq
  intro i hi
  interval_cases i <;> (simp only [field, FieldForm.word, BitVec.getLsbD_extractLsb', BitVec.getLsbD_append]; simp)

@[simp] theorem fieldWord_field_8_5 (o : FieldForm) (op : BitVec 2) : field (o.word op) 8 5 = o.cstb := by
  apply BitVec.eq_of_getLsbD_eq
  intro i hi
  interval_cases i <;> (simp only [field, FieldForm.word, BitVec.getLsbD_extractLsb', BitVec.getLsbD_append]; simp)

@[simp] theorem fieldWord_field_6_2 (o : FieldForm) (op : BitVec 2) : field (o.word op) 6 2 = op := by
  apply BitVec.eq_of_getLsbD_eq
  intro i hi
  interval_cases i <;> (simp only [field, FieldForm.word, BitVec.getLsbD_extractLsb', BitVec.getLsbD_append]; simp)

@[simp] theorem fieldWord_field_2_2 (o : FieldForm) (op : BitVec 2) : field (o.word op) 2 2 = 2 := by
  apply BitVec.eq_of_getLsbD_eq
  intro i hi
  interval_cases i <;> (simp only [field, FieldForm.word, BitVec.getLsbD_extractLsb', BitVec.getLsbD_append]; simp)

@[simp] theorem fieldWord_field_4_2 (o : FieldForm) (op : BitVec 2) : field (o.word op) 4 2 = 0 := by
  apply BitVec.eq_of_getLsbD_eq
  intro i hi
  interval_cases i <;> (simp only [field, FieldForm.word, BitVec.getLsbD_extractLsb', BitVec.getLsbD_append]; simp)

@[simp] theorem fieldWord_flag_1 (o : FieldForm) (op : BitVec 2) : flag (o.word op) 1 = o.side.toBit := by
  simp only [flag, FieldForm.word, BitVec.getLsbD_append]; simp

@[simp] theorem fieldWord_flag_0 (o : FieldForm) (op : BitVec 2) : flag (o.word op) 0 = o.p := by
  simp only [flag, FieldForm.word, BitVec.getLsbD_append]; simp

/-! ### Formats ADDK and MVK -/

@[simp] theorem cst16Word_field_28_4 (o : Cst16Form) (l : BitVec 5) : field (o.word l) 28 4 = o.cond.code := by
  apply BitVec.eq_of_getLsbD_eq
  intro i hi
  interval_cases i <;> (simp only [field, Cst16Form.word, BitVec.getLsbD_extractLsb', BitVec.getLsbD_append]; simp)

@[simp] theorem cst16Word_field_23_5 (o : Cst16Form) (l : BitVec 5) : field (o.word l) 23 5 = o.dst := by
  apply BitVec.eq_of_getLsbD_eq
  intro i hi
  interval_cases i <;> (simp only [field, Cst16Form.word, BitVec.getLsbD_extractLsb', BitVec.getLsbD_append]; simp)

@[simp] theorem cst16Word_field_7_16 (o : Cst16Form) (l : BitVec 5) : field (o.word l) 7 16 = o.cst := by
  apply BitVec.eq_of_getLsbD_eq
  intro i hi
  interval_cases i <;> (simp only [field, Cst16Form.word, BitVec.getLsbD_extractLsb', BitVec.getLsbD_append]; simp)

@[simp] theorem cst16Word_field_2_2 (o : Cst16Form) (l : BitVec 5) : field (o.word l) 2 2 = l.extractLsb' 0 2 := by
  apply BitVec.eq_of_getLsbD_eq
  intro i hi
  interval_cases i <;> (simp only [field, Cst16Form.word, BitVec.getLsbD_extractLsb', BitVec.getLsbD_append]; simp)

@[simp] theorem cst16Word_field_4_2 (o : Cst16Form) (l : BitVec 5) : field (o.word l) 4 2 = l.extractLsb' 2 2 := by
  apply BitVec.eq_of_getLsbD_eq
  intro i hi
  interval_cases i <;> (simp only [field, Cst16Form.word, BitVec.getLsbD_extractLsb', BitVec.getLsbD_append]; simp)

@[simp] theorem cst16Word_field_4_3 (o : Cst16Form) (l : BitVec 5) : field (o.word l) 4 3 = l.extractLsb' 2 3 := by
  apply BitVec.eq_of_getLsbD_eq
  intro i hi
  interval_cases i <;> (simp only [field, Cst16Form.word, BitVec.getLsbD_extractLsb', BitVec.getLsbD_append]; simp)

@[simp] theorem cst16Word_flag_6 (o : Cst16Form) (l : BitVec 5) : flag (o.word l) 6 = l.getLsbD 4 := by
  simp only [flag, Cst16Form.word, BitVec.getLsbD_append]; simp

@[simp] theorem cst16Word_flag_1 (o : Cst16Form) (l : BitVec 5) : flag (o.word l) 1 = o.side.toBit := by
  simp only [flag, Cst16Form.word, BitVec.getLsbD_append]; simp

@[simp] theorem cst16Word_flag_0 (o : Cst16Form) (l : BitVec 5) : flag (o.word l) 0 = o.p := by
  simp only [flag, Cst16Form.word, BitVec.getLsbD_append]; simp

/-! ### Format LSR -/

@[simp] theorem memWord_field_28_4 (o : MemForm) (r : Bool) (op : BitVec 3) : field (o.word r op) 28 4 = o.cond.code := by
  apply BitVec.eq_of_getLsbD_eq
  intro i hi
  interval_cases i <;> (simp only [field, MemForm.word, BitVec.getLsbD_extractLsb', BitVec.getLsbD_append]; simp)

@[simp] theorem memWord_field_23_5 (o : MemForm) (r : Bool) (op : BitVec 3) : field (o.word r op) 23 5 = o.data := by
  apply BitVec.eq_of_getLsbD_eq
  intro i hi
  interval_cases i <;> (simp only [field, MemForm.word, BitVec.getLsbD_extractLsb', BitVec.getLsbD_append]; simp)

@[simp] theorem memWord_field_18_5 (o : MemForm) (r : Bool) (op : BitVec 3) : field (o.word r op) 18 5 = o.base := by
  apply BitVec.eq_of_getLsbD_eq
  intro i hi
  interval_cases i <;> (simp only [field, MemForm.word, BitVec.getLsbD_extractLsb', BitVec.getLsbD_append]; simp)

@[simp] theorem memWord_field_13_5 (o : MemForm) (r : Bool) (op : BitVec 3) : field (o.word r op) 13 5 = o.mode.offset.field := by
  apply BitVec.eq_of_getLsbD_eq
  intro i hi
  interval_cases i <;> (simp only [field, MemForm.word, BitVec.getLsbD_extractLsb', BitVec.getLsbD_append]; simp)

@[simp] theorem memWord_field_9_4 (o : MemForm) (r : Bool) (op : BitVec 3) : field (o.word r op) 9 4 = o.mode.code := by
  apply BitVec.eq_of_getLsbD_eq
  intro i hi
  interval_cases i <;> (simp only [field, MemForm.word, BitVec.getLsbD_extractLsb', BitVec.getLsbD_append]; simp)

@[simp] theorem memWord_field_4_3 (o : MemForm) (r : Bool) (op : BitVec 3) : field (o.word r op) 4 3 = op := by
  apply BitVec.eq_of_getLsbD_eq
  intro i hi
  interval_cases i <;> (simp only [field, MemForm.word, BitVec.getLsbD_extractLsb', BitVec.getLsbD_append]; simp)

@[simp] theorem memWord_field_2_2 (o : MemForm) (r : Bool) (op : BitVec 3) : field (o.word r op) 2 2 = 1 := by
  apply BitVec.eq_of_getLsbD_eq
  intro i hi
  interval_cases i <;> (simp only [field, MemForm.word, BitVec.getLsbD_extractLsb', BitVec.getLsbD_append]; simp)

@[simp] theorem memWord_flag_8 (o : MemForm) (r : Bool) (op : BitVec 3) : flag (o.word r op) 8 = r := by
  simp only [flag, MemForm.word, BitVec.getLsbD_append]; simp

@[simp] theorem memWord_flag_7 (o : MemForm) (r : Bool) (op : BitVec 3) : flag (o.word r op) 7 = o.y.toBit := by
  simp only [flag, MemForm.word, BitVec.getLsbD_append]; simp

@[simp] theorem memWord_flag_1 (o : MemForm) (r : Bool) (op : BitVec 3) : flag (o.word r op) 1 = o.side.toBit := by
  simp only [flag, MemForm.word, BitVec.getLsbD_append]; simp

@[simp] theorem memWord_flag_0 (o : MemForm) (r : Bool) (op : BitVec 3) : flag (o.word r op) 0 = o.p := by
  simp only [flag, MemForm.word, BitVec.getLsbD_append]; simp

/-! ### Format LS15 -/

@[simp] theorem mem15Word_field_28_4 (o : Mem15Form) (op : BitVec 3) : field (o.word op) 28 4 = o.cond.code := by
  apply BitVec.eq_of_getLsbD_eq
  intro i hi
  interval_cases i <;> (simp only [field, Mem15Form.word, BitVec.getLsbD_extractLsb', BitVec.getLsbD_append]; simp)

@[simp] theorem mem15Word_field_23_5 (o : Mem15Form) (op : BitVec 3) : field (o.word op) 23 5 = o.data := by
  apply BitVec.eq_of_getLsbD_eq
  intro i hi
  interval_cases i <;> (simp only [field, Mem15Form.word, BitVec.getLsbD_extractLsb', BitVec.getLsbD_append]; simp)

@[simp] theorem mem15Word_field_8_15 (o : Mem15Form) (op : BitVec 3) : field (o.word op) 8 15 = o.off := by
  apply BitVec.eq_of_getLsbD_eq
  intro i hi
  interval_cases i <;> (simp only [field, Mem15Form.word, BitVec.getLsbD_extractLsb', BitVec.getLsbD_append]; simp)

@[simp] theorem mem15Word_field_4_3 (o : Mem15Form) (op : BitVec 3) : field (o.word op) 4 3 = op := by
  apply BitVec.eq_of_getLsbD_eq
  intro i hi
  interval_cases i <;> (simp only [field, Mem15Form.word, BitVec.getLsbD_extractLsb', BitVec.getLsbD_append]; simp)

@[simp] theorem mem15Word_field_2_2 (o : Mem15Form) (op : BitVec 3) : field (o.word op) 2 2 = 3 := by
  apply BitVec.eq_of_getLsbD_eq
  intro i hi
  interval_cases i <;> (simp only [field, Mem15Form.word, BitVec.getLsbD_extractLsb', BitVec.getLsbD_append]; simp)

@[simp] theorem mem15Word_flag_7 (o : Mem15Form) (op : BitVec 3) : flag (o.word op) 7 = o.y := by
  simp only [flag, Mem15Form.word, BitVec.getLsbD_append]; simp

@[simp] theorem mem15Word_flag_1 (o : Mem15Form) (op : BitVec 3) : flag (o.word op) 1 = o.side.toBit := by
  simp only [flag, Mem15Form.word, BitVec.getLsbD_append]; simp

@[simp] theorem mem15Word_flag_0 (o : Mem15Form) (op : BitVec 3) : flag (o.word op) 0 = o.p := by
  simp only [flag, Mem15Form.word, BitVec.getLsbD_append]; simp

/-! ### Format BDISP -/

@[simp] theorem bDisp_field_28_4 (o : DispForm) : field (encode (.bDisp o)) 28 4 = o.cond.code := by
  apply BitVec.eq_of_getLsbD_eq
  intro i hi
  interval_cases i <;> (simp only [field, encode, BitVec.getLsbD_extractLsb', BitVec.getLsbD_append]; simp)

@[simp] theorem bDisp_field_7_21 (o : DispForm) : field (encode (.bDisp o)) 7 21 = o.cst := by
  apply BitVec.eq_of_getLsbD_eq
  intro i hi
  interval_cases i <;> (simp only [field, encode, BitVec.getLsbD_extractLsb', BitVec.getLsbD_append]; simp)

@[simp] theorem bDisp_field_2_2 (o : DispForm) : field (encode (.bDisp o)) 2 2 = 0 := by
  apply BitVec.eq_of_getLsbD_eq
  intro i hi
  interval_cases i <;> (simp only [field, encode, BitVec.getLsbD_extractLsb', BitVec.getLsbD_append]; simp)

@[simp] theorem bDisp_field_4_3 (o : DispForm) : field (encode (.bDisp o)) 4 3 = 1 := by
  apply BitVec.eq_of_getLsbD_eq
  intro i hi
  interval_cases i <;> (simp only [field, encode, BitVec.getLsbD_extractLsb', BitVec.getLsbD_append]; simp)

@[simp] theorem bDisp_flag_1 (o : DispForm) : flag (encode (.bDisp o)) 1 = o.side.toBit := by
  simp only [flag, encode, BitVec.getLsbD_append]; simp

@[simp] theorem bDisp_flag_0 (o : DispForm) : flag (encode (.bDisp o)) 0 = o.p := by
  simp only [flag, encode, BitVec.getLsbD_append]; simp

/-! ### Which words are not in the NOP layout -/

theorem field_2_11_ne_zero {w : Word} {j : Nat} (hj : j < 11) (h : w.getLsbD (2 + j) = true) : field w 2 11 ≠ 0 := by
  intro e
  have := congrArg (fun v => v.getLsbD j) e
  simp [field, hj, h] at this

/-- Outside the NOP layout decoding goes by the condition and the format. -/
theorem decode_of_format {w : Word} {c : Cond} (h : field w 2 11 ≠ 0) (hc : field w 28 4 = c.code) :
    decode w = decodeFormat w c := by
  rw [decode, if_neg h, hc, condOf_code]

theorem decode_word3 (c : Cond) (d s2 s1 : BitVec 5) (x : Bool) (op : BitVec 10) (s : Side) (p : Bool) (h : op ≠ 0) :
    decode (word3 c d s2 s1 x op s p) = decodeFormat (word3 c d s2 s1 x op s p) c := by
  refine decode_of_format ?_ (by simp)
  rw [word3_field_2_11]
  intro e
  apply h
  apply BitVec.eq_of_getLsbD_eq
  intro i hi
  have := congrArg (fun v => v.getLsbD i) e
  simp only [BitVec.getLsbD_append, hi, if_true] at this
  rw [this]; simp

theorem decode_bDisp (o : DispForm) : decode (encode (.bDisp o)) = decodeFormat (encode (.bDisp o)) o.cond :=
  decode_of_format (field_2_11_ne_zero (j := 2) (by decide) (by simp only [encode, BitVec.getLsbD_append]; simp)) (by simp)

/-- Formats ADDK and MVK: bit 6:2 are not all zero. -/
theorem decode_cst16Word (o : Cst16Form) (l : BitVec 5) {j : Nat} (hj : j < 5) (h : l.getLsbD j = true) :
    decode (o.word l) = decodeFormat (o.word l) o.cond := by
  refine decode_of_format (field_2_11_ne_zero (j := j) (by omega) ?_) (by simp)
  interval_cases j <;> (simp only [Cst16Form.word, BitVec.getLsbD_append]; simpa using h)

theorem decode_fieldWord (o : FieldForm) (op : BitVec 2) : decode (o.word op) = decodeFormat (o.word op) o.cond :=
  decode_of_format (field_2_11_ne_zero (j := 1) (by decide) (by simp only [FieldForm.word, BitVec.getLsbD_append]; simp)) (by simp)

theorem decode_memWord (o : MemForm) (r : Bool) (op : BitVec 3) : decode (o.word r op) = decodeFormat (o.word r op) o.cond :=
  decode_of_format (field_2_11_ne_zero (j := 0) (by decide) (by simp only [MemForm.word, BitVec.getLsbD_append]; simp)) (by simp)

theorem decode_mem15Word (o : Mem15Form) (op : BitVec 3) : decode (o.word op) = decodeFormat (o.word op) o.cond :=
  decode_of_format (field_2_11_ne_zero (j := 0) (by decide) (by simp only [Mem15Form.word, BitVec.getLsbD_append]; simp)) (by simp)

end Sys2Proof
end

