-- ==== Sys2Proof/Laws/State.lean ====
section
/-! SUPPORT. One lemma per field per update of the state, each true by unfolding one record update, so that no proof unfolds one
again. The first part is about the effects that a meaning puts in flight, the second about the phases of a cycle. -/
namespace Sys2Proof.Machine

/-! ### Effects put in flight -/

/-! `State.enqueue` -/

@[simp] theorem State.enqueue_params (s : State) (ws : List Write) : (s.enqueue ws).params = s.params := rfl
@[simp] theorem State.enqueue_regs (s : State) (ws : List Write) : (s.enqueue ws).regs = s.regs := rfl
@[simp] theorem State.enqueue_ctrl (s : State) (ws : List Write) : (s.enqueue ws).ctrl = s.ctrl := rfl
@[simp] theorem State.enqueue_pc (s : State) (ws : List Write) : (s.enqueue ws).pc = s.pc := rfl
@[simp] theorem State.enqueue_pce1 (s : State) (ws : List Write) : (s.enqueue ws).pce1 = s.pce1 := rfl
@[simp] theorem State.enqueue_mem (s : State) (ws : List Write) : (s.enqueue ws).mem = s.mem := rfl
@[simp] theorem State.enqueue_env (s : State) (ws : List Write) : (s.enqueue ws).env = s.env := rfl
@[simp] theorem State.enqueue_flight_pw (s : State) (ws : List Write) :
    (s.enqueue ws).flight.pw = s.flight.pw ++ ws := rfl
@[simp] theorem State.enqueue_flight_pb (s : State) (ws : List Write) :
    (s.enqueue ws).flight.pb = s.flight.pb := rfl
@[simp] theorem State.enqueue_flight_pmLoads (s : State) (ws : List Write) :
    (s.enqueue ws).flight.pmLoads = s.flight.pmLoads := rfl
@[simp] theorem State.enqueue_flight_pmStores (s : State) (ws : List Write) :
    (s.enqueue ws).flight.pmStores = s.flight.pmStores := rfl
@[simp] theorem State.enqueue_flight_psat (s : State) (ws : List Write) :
    (s.enqueue ws).flight.psat = s.flight.psat := rfl
@[simp] theorem State.enqueue_flight_nopcnt (s : State) (ws : List Write) :
    (s.enqueue ws).flight.nopcnt = s.flight.nopcnt := rfl
@[simp] theorem State.enqueue_flight_nopreq (s : State) (ws : List Write) :
    (s.enqueue ws).flight.nopreq = s.flight.nopreq := rfl
@[simp] theorem State.enqueue_flight_idle (s : State) (ws : List Write) :
    (s.enqueue ws).flight.idle = s.flight.idle := rfl
@[simp] theorem State.enqueue_flight_idlereq (s : State) (ws : List Write) :
    (s.enqueue ws).flight.idlereq = s.flight.idlereq := rfl
@[simp] theorem State.enqueue_flight_bshadow (s : State) (ws : List Write) :
    (s.enqueue ws).flight.bshadow = s.flight.bshadow := rfl

/-! `State.putWord` -/

@[simp] theorem State.putWord_params (s : State) (side : Side) (r : RegNum) (v : Word) (d : Nat) : (s.putWord side r v d).params = s.params := rfl
@[simp] theorem State.putWord_regs (s : State) (side : Side) (r : RegNum) (v : Word) (d : Nat) : (s.putWord side r v d).regs = s.regs := rfl
@[simp] theorem State.putWord_ctrl (s : State) (side : Side) (r : RegNum) (v : Word) (d : Nat) : (s.putWord side r v d).ctrl = s.ctrl := rfl
@[simp] theorem State.putWord_pc (s : State) (side : Side) (r : RegNum) (v : Word) (d : Nat) : (s.putWord side r v d).pc = s.pc := rfl
@[simp] theorem State.putWord_pce1 (s : State) (side : Side) (r : RegNum) (v : Word) (d : Nat) : (s.putWord side r v d).pce1 = s.pce1 := rfl
@[simp] theorem State.putWord_mem (s : State) (side : Side) (r : RegNum) (v : Word) (d : Nat) : (s.putWord side r v d).mem = s.mem := rfl
@[simp] theorem State.putWord_env (s : State) (side : Side) (r : RegNum) (v : Word) (d : Nat) : (s.putWord side r v d).env = s.env := rfl
@[simp] theorem State.putWord_flight_pw (s : State) (side : Side) (r : RegNum) (v : Word) (d : Nat) :
    (s.putWord side r v d).flight.pw = s.flight.pw ++ [⟨.gpr side r, v, d⟩] := rfl
@[simp] theorem State.putWord_flight_pb (s : State) (side : Side) (r : RegNum) (v : Word) (d : Nat) :
    (s.putWord side r v d).flight.pb = s.flight.pb := rfl
@[simp] theorem State.putWord_flight_pmLoads (s : State) (side : Side) (r : RegNum) (v : Word) (d : Nat) :
    (s.putWord side r v d).flight.pmLoads = s.flight.pmLoads := rfl
@[simp] theorem State.putWord_flight_pmStores (s : State) (side : Side) (r : RegNum) (v : Word) (d : Nat) :
    (s.putWord side r v d).flight.pmStores = s.flight.pmStores := rfl
@[simp] theorem State.putWord_flight_psat (s : State) (side : Side) (r : RegNum) (v : Word) (d : Nat) :
    (s.putWord side r v d).flight.psat = s.flight.psat := rfl
@[simp] theorem State.putWord_flight_nopcnt (s : State) (side : Side) (r : RegNum) (v : Word) (d : Nat) :
    (s.putWord side r v d).flight.nopcnt = s.flight.nopcnt := rfl
@[simp] theorem State.putWord_flight_nopreq (s : State) (side : Side) (r : RegNum) (v : Word) (d : Nat) :
    (s.putWord side r v d).flight.nopreq = s.flight.nopreq := rfl
@[simp] theorem State.putWord_flight_idle (s : State) (side : Side) (r : RegNum) (v : Word) (d : Nat) :
    (s.putWord side r v d).flight.idle = s.flight.idle := rfl
@[simp] theorem State.putWord_flight_idlereq (s : State) (side : Side) (r : RegNum) (v : Word) (d : Nat) :
    (s.putWord side r v d).flight.idlereq = s.flight.idlereq := rfl
@[simp] theorem State.putWord_flight_bshadow (s : State) (side : Side) (r : RegNum) (v : Word) (d : Nat) :
    (s.putWord side r v d).flight.bshadow = s.flight.bshadow := rfl

/-! `State.putLong` -/

@[simp] theorem State.putLong_params (s : State) (side : Side) (r : RegNum) (v : Long) : (s.putLong side r v).params = s.params := rfl
@[simp] theorem State.putLong_regs (s : State) (side : Side) (r : RegNum) (v : Long) : (s.putLong side r v).regs = s.regs := rfl
@[simp] theorem State.putLong_ctrl (s : State) (side : Side) (r : RegNum) (v : Long) : (s.putLong side r v).ctrl = s.ctrl := rfl
@[simp] theorem State.putLong_pc (s : State) (side : Side) (r : RegNum) (v : Long) : (s.putLong side r v).pc = s.pc := rfl
@[simp] theorem State.putLong_pce1 (s : State) (side : Side) (r : RegNum) (v : Long) : (s.putLong side r v).pce1 = s.pce1 := rfl
@[simp] theorem State.putLong_mem (s : State) (side : Side) (r : RegNum) (v : Long) : (s.putLong side r v).mem = s.mem := rfl
@[simp] theorem State.putLong_env (s : State) (side : Side) (r : RegNum) (v : Long) : (s.putLong side r v).env = s.env := rfl
@[simp] theorem State.putLong_flight_pw (s : State) (side : Side) (r : RegNum) (v : Long) :
    (s.putLong side r v).flight.pw = s.flight.pw ++
      [⟨.gpr side r, v.extractLsb' 0 32, 0⟩, ⟨.gpr side (r + 1), (v.extractLsb' 32 8).setWidth 32, 0⟩] := rfl
@[simp] theorem State.putLong_flight_pb (s : State) (side : Side) (r : RegNum) (v : Long) :
    (s.putLong side r v).flight.pb = s.flight.pb := rfl
@[simp] theorem State.putLong_flight_pmLoads (s : State) (side : Side) (r : RegNum) (v : Long) :
    (s.putLong side r v).flight.pmLoads = s.flight.pmLoads := rfl
@[simp] theorem State.putLong_flight_pmStores (s : State) (side : Side) (r : RegNum) (v : Long) :
    (s.putLong side r v).flight.pmStores = s.flight.pmStores := rfl
@[simp] theorem State.putLong_flight_psat (s : State) (side : Side) (r : RegNum) (v : Long) :
    (s.putLong side r v).flight.psat = s.flight.psat := rfl
@[simp] theorem State.putLong_flight_nopcnt (s : State) (side : Side) (r : RegNum) (v : Long) :
    (s.putLong side r v).flight.nopcnt = s.flight.nopcnt := rfl
@[simp] theorem State.putLong_flight_nopreq (s : State) (side : Side) (r : RegNum) (v : Long) :
    (s.putLong side r v).flight.nopreq = s.flight.nopreq := rfl
@[simp] theorem State.putLong_flight_idle (s : State) (side : Side) (r : RegNum) (v : Long) :
    (s.putLong side r v).flight.idle = s.flight.idle := rfl
@[simp] theorem State.putLong_flight_idlereq (s : State) (side : Side) (r : RegNum) (v : Long) :
    (s.putLong side r v).flight.idlereq = s.flight.idlereq := rfl
@[simp] theorem State.putLong_flight_bshadow (s : State) (side : Side) (r : RegNum) (v : Long) :
    (s.putLong side r v).flight.bshadow = s.flight.bshadow := rfl

/-! `State.putCtrl` -/

@[simp] theorem State.putCtrl_params (s : State) (c : CtrlDest) (v : Word) (d : Nat) : (s.putCtrl c v d).params = s.params := rfl
@[simp] theorem State.putCtrl_regs (s : State) (c : CtrlDest) (v : Word) (d : Nat) : (s.putCtrl c v d).regs = s.regs := rfl
@[simp] theorem State.putCtrl_ctrl (s : State) (c : CtrlDest) (v : Word) (d : Nat) : (s.putCtrl c v d).ctrl = s.ctrl := rfl
@[simp] theorem State.putCtrl_pc (s : State) (c : CtrlDest) (v : Word) (d : Nat) : (s.putCtrl c v d).pc = s.pc := rfl
@[simp] theorem State.putCtrl_pce1 (s : State) (c : CtrlDest) (v : Word) (d : Nat) : (s.putCtrl c v d).pce1 = s.pce1 := rfl
@[simp] theorem State.putCtrl_mem (s : State) (c : CtrlDest) (v : Word) (d : Nat) : (s.putCtrl c v d).mem = s.mem := rfl
@[simp] theorem State.putCtrl_env (s : State) (c : CtrlDest) (v : Word) (d : Nat) : (s.putCtrl c v d).env = s.env := rfl
@[simp] theorem State.putCtrl_flight_pw (s : State) (c : CtrlDest) (v : Word) (d : Nat) :
    (s.putCtrl c v d).flight.pw = s.flight.pw ++ [⟨.ctrl c, v, d⟩] := rfl
@[simp] theorem State.putCtrl_flight_pb (s : State) (c : CtrlDest) (v : Word) (d : Nat) :
    (s.putCtrl c v d).flight.pb = s.flight.pb := rfl
@[simp] theorem State.putCtrl_flight_pmLoads (s : State) (c : CtrlDest) (v : Word) (d : Nat) :
    (s.putCtrl c v d).flight.pmLoads = s.flight.pmLoads := rfl
@[simp] theorem State.putCtrl_flight_pmStores (s : State) (c : CtrlDest) (v : Word) (d : Nat) :
    (s.putCtrl c v d).flight.pmStores = s.flight.pmStores := rfl
@[simp] theorem State.putCtrl_flight_psat (s : State) (c : CtrlDest) (v : Word) (d : Nat) :
    (s.putCtrl c v d).flight.psat = s.flight.psat := rfl
@[simp] theorem State.putCtrl_flight_nopcnt (s : State) (c : CtrlDest) (v : Word) (d : Nat) :
    (s.putCtrl c v d).flight.nopcnt = s.flight.nopcnt := rfl
@[simp] theorem State.putCtrl_flight_nopreq (s : State) (c : CtrlDest) (v : Word) (d : Nat) :
    (s.putCtrl c v d).flight.nopreq = s.flight.nopreq := rfl
@[simp] theorem State.putCtrl_flight_idle (s : State) (c : CtrlDest) (v : Word) (d : Nat) :
    (s.putCtrl c v d).flight.idle = s.flight.idle := rfl
@[simp] theorem State.putCtrl_flight_idlereq (s : State) (c : CtrlDest) (v : Word) (d : Nat) :
    (s.putCtrl c v d).flight.idlereq = s.flight.idlereq := rfl
@[simp] theorem State.putCtrl_flight_bshadow (s : State) (c : CtrlDest) (v : Word) (d : Nat) :
    (s.putCtrl c v d).flight.bshadow = s.flight.bshadow := rfl

/-! `State.pendSat` -/

@[simp] theorem State.pendSat_params (s : State) (d : Nat) : (s.pendSat d).params = s.params := rfl
@[simp] theorem State.pendSat_regs (s : State) (d : Nat) : (s.pendSat d).regs = s.regs := rfl
@[simp] theorem State.pendSat_ctrl (s : State) (d : Nat) : (s.pendSat d).ctrl = s.ctrl := rfl
@[simp] theorem State.pendSat_pc (s : State) (d : Nat) : (s.pendSat d).pc = s.pc := rfl
@[simp] theorem State.pendSat_pce1 (s : State) (d : Nat) : (s.pendSat d).pce1 = s.pce1 := rfl
@[simp] theorem State.pendSat_mem (s : State) (d : Nat) : (s.pendSat d).mem = s.mem := rfl
@[simp] theorem State.pendSat_env (s : State) (d : Nat) : (s.pendSat d).env = s.env := rfl
@[simp] theorem State.pendSat_flight_pw (s : State) (d : Nat) :
    (s.pendSat d).flight.pw = s.flight.pw := rfl
@[simp] theorem State.pendSat_flight_pb (s : State) (d : Nat) :
    (s.pendSat d).flight.pb = s.flight.pb := rfl
@[simp] theorem State.pendSat_flight_pmLoads (s : State) (d : Nat) :
    (s.pendSat d).flight.pmLoads = s.flight.pmLoads := rfl
@[simp] theorem State.pendSat_flight_pmStores (s : State) (d : Nat) :
    (s.pendSat d).flight.pmStores = s.flight.pmStores := rfl
@[simp] theorem State.pendSat_flight_psat (s : State) (d : Nat) :
    (s.pendSat d).flight.psat = s.flight.psat ++ [d + 1] := rfl
@[simp] theorem State.pendSat_flight_nopcnt (s : State) (d : Nat) :
    (s.pendSat d).flight.nopcnt = s.flight.nopcnt := rfl
@[simp] theorem State.pendSat_flight_nopreq (s : State) (d : Nat) :
    (s.pendSat d).flight.nopreq = s.flight.nopreq := rfl
@[simp] theorem State.pendSat_flight_idle (s : State) (d : Nat) :
    (s.pendSat d).flight.idle = s.flight.idle := rfl
@[simp] theorem State.pendSat_flight_idlereq (s : State) (d : Nat) :
    (s.pendSat d).flight.idlereq = s.flight.idlereq := rfl
@[simp] theorem State.pendSat_flight_bshadow (s : State) (d : Nat) :
    (s.pendSat d).flight.bshadow = s.flight.bshadow := rfl

/-! `State.pendBranch` -/

@[simp] theorem State.pendBranch_params (s : State) (a : Word) (k : BranchKind) : (s.pendBranch a k).params = s.params := rfl
@[simp] theorem State.pendBranch_regs (s : State) (a : Word) (k : BranchKind) : (s.pendBranch a k).regs = s.regs := rfl
@[simp] theorem State.pendBranch_ctrl (s : State) (a : Word) (k : BranchKind) : (s.pendBranch a k).ctrl = s.ctrl := rfl
@[simp] theorem State.pendBranch_pc (s : State) (a : Word) (k : BranchKind) : (s.pendBranch a k).pc = s.pc := rfl
@[simp] theorem State.pendBranch_pce1 (s : State) (a : Word) (k : BranchKind) : (s.pendBranch a k).pce1 = s.pce1 := rfl
@[simp] theorem State.pendBranch_mem (s : State) (a : Word) (k : BranchKind) : (s.pendBranch a k).mem = s.mem := rfl
@[simp] theorem State.pendBranch_env (s : State) (a : Word) (k : BranchKind) : (s.pendBranch a k).env = s.env := rfl
@[simp] theorem State.pendBranch_flight_pw (s : State) (a : Word) (k : BranchKind) :
    (s.pendBranch a k).flight.pw = s.flight.pw := rfl
@[simp] theorem State.pendBranch_flight_pb (s : State) (a : Word) (k : BranchKind) :
    (s.pendBranch a k).flight.pb = s.flight.pb ++ [⟨a, branchDelay, k⟩] := rfl
@[simp] theorem State.pendBranch_flight_pmLoads (s : State) (a : Word) (k : BranchKind) :
    (s.pendBranch a k).flight.pmLoads = s.flight.pmLoads := rfl
@[simp] theorem State.pendBranch_flight_pmStores (s : State) (a : Word) (k : BranchKind) :
    (s.pendBranch a k).flight.pmStores = s.flight.pmStores := rfl
@[simp] theorem State.pendBranch_flight_psat (s : State) (a : Word) (k : BranchKind) :
    (s.pendBranch a k).flight.psat = s.flight.psat := rfl
@[simp] theorem State.pendBranch_flight_nopcnt (s : State) (a : Word) (k : BranchKind) :
    (s.pendBranch a k).flight.nopcnt = s.flight.nopcnt := rfl
@[simp] theorem State.pendBranch_flight_nopreq (s : State) (a : Word) (k : BranchKind) :
    (s.pendBranch a k).flight.nopreq = s.flight.nopreq := rfl
@[simp] theorem State.pendBranch_flight_idle (s : State) (a : Word) (k : BranchKind) :
    (s.pendBranch a k).flight.idle = s.flight.idle := rfl
@[simp] theorem State.pendBranch_flight_idlereq (s : State) (a : Word) (k : BranchKind) :
    (s.pendBranch a k).flight.idlereq = s.flight.idlereq := rfl
@[simp] theorem State.pendBranch_flight_bshadow (s : State) (a : Word) (k : BranchKind) :
    (s.pendBranch a k).flight.bshadow = s.flight.bshadow := rfl

/-! `State.pendLoad` -/

@[simp] theorem State.pendLoad_params (s : State) (a : Word) (z : Access) (g : Bool) (side : Side) (r : RegNum) : (s.pendLoad a z g side r).params = s.params := rfl
@[simp] theorem State.pendLoad_regs (s : State) (a : Word) (z : Access) (g : Bool) (side : Side) (r : RegNum) : (s.pendLoad a z g side r).regs = s.regs := rfl
@[simp] theorem State.pendLoad_ctrl (s : State) (a : Word) (z : Access) (g : Bool) (side : Side) (r : RegNum) : (s.pendLoad a z g side r).ctrl = s.ctrl := rfl
@[simp] theorem State.pendLoad_pc (s : State) (a : Word) (z : Access) (g : Bool) (side : Side) (r : RegNum) : (s.pendLoad a z g side r).pc = s.pc := rfl
@[simp] theorem State.pendLoad_pce1 (s : State) (a : Word) (z : Access) (g : Bool) (side : Side) (r : RegNum) : (s.pendLoad a z g side r).pce1 = s.pce1 := rfl
@[simp] theorem State.pendLoad_mem (s : State) (a : Word) (z : Access) (g : Bool) (side : Side) (r : RegNum) : (s.pendLoad a z g side r).mem = s.mem := rfl
@[simp] theorem State.pendLoad_env (s : State) (a : Word) (z : Access) (g : Bool) (side : Side) (r : RegNum) : (s.pendLoad a z g side r).env = s.env := rfl
@[simp] theorem State.pendLoad_flight_pw (s : State) (a : Word) (z : Access) (g : Bool) (side : Side) (r : RegNum) :
    (s.pendLoad a z g side r).flight.pw = s.flight.pw := rfl
@[simp] theorem State.pendLoad_flight_pb (s : State) (a : Word) (z : Access) (g : Bool) (side : Side) (r : RegNum) :
    (s.pendLoad a z g side r).flight.pb = s.flight.pb := rfl
@[simp] theorem State.pendLoad_flight_pmLoads (s : State) (a : Word) (z : Access) (g : Bool) (side : Side) (r : RegNum) :
    (s.pendLoad a z g side r).flight.pmLoads = s.flight.pmLoads ++ [⟨a, z, g, side, r, memLatency⟩] := rfl
@[simp] theorem State.pendLoad_flight_pmStores (s : State) (a : Word) (z : Access) (g : Bool) (side : Side) (r : RegNum) :
    (s.pendLoad a z g side r).flight.pmStores = s.flight.pmStores := rfl
@[simp] theorem State.pendLoad_flight_psat (s : State) (a : Word) (z : Access) (g : Bool) (side : Side) (r : RegNum) :
    (s.pendLoad a z g side r).flight.psat = s.flight.psat := rfl
@[simp] theorem State.pendLoad_flight_nopcnt (s : State) (a : Word) (z : Access) (g : Bool) (side : Side) (r : RegNum) :
    (s.pendLoad a z g side r).flight.nopcnt = s.flight.nopcnt := rfl
@[simp] theorem State.pendLoad_flight_nopreq (s : State) (a : Word) (z : Access) (g : Bool) (side : Side) (r : RegNum) :
    (s.pendLoad a z g side r).flight.nopreq = s.flight.nopreq := rfl
@[simp] theorem State.pendLoad_flight_idle (s : State) (a : Word) (z : Access) (g : Bool) (side : Side) (r : RegNum) :
    (s.pendLoad a z g side r).flight.idle = s.flight.idle := rfl
@[simp] theorem State.pendLoad_flight_idlereq (s : State) (a : Word) (z : Access) (g : Bool) (side : Side) (r : RegNum) :
    (s.pendLoad a z g side r).flight.idlereq = s.flight.idlereq := rfl
@[simp] theorem State.pendLoad_flight_bshadow (s : State) (a : Word) (z : Access) (g : Bool) (side : Side) (r : RegNum) :
    (s.pendLoad a z g side r).flight.bshadow = s.flight.bshadow := rfl

/-! `State.pendStore` -/

@[simp] theorem State.pendStore_params (s : State) (a : Word) (z : Access) (v : Word) : (s.pendStore a z v).params = s.params := rfl
@[simp] theorem State.pendStore_regs (s : State) (a : Word) (z : Access) (v : Word) : (s.pendStore a z v).regs = s.regs := rfl
@[simp] theorem State.pendStore_ctrl (s : State) (a : Word) (z : Access) (v : Word) : (s.pendStore a z v).ctrl = s.ctrl := rfl
@[simp] theorem State.pendStore_pc (s : State) (a : Word) (z : Access) (v : Word) : (s.pendStore a z v).pc = s.pc := rfl
@[simp] theorem State.pendStore_pce1 (s : State) (a : Word) (z : Access) (v : Word) : (s.pendStore a z v).pce1 = s.pce1 := rfl
@[simp] theorem State.pendStore_mem (s : State) (a : Word) (z : Access) (v : Word) : (s.pendStore a z v).mem = s.mem := rfl
@[simp] theorem State.pendStore_env (s : State) (a : Word) (z : Access) (v : Word) : (s.pendStore a z v).env = s.env := rfl
@[simp] theorem State.pendStore_flight_pw (s : State) (a : Word) (z : Access) (v : Word) :
    (s.pendStore a z v).flight.pw = s.flight.pw := rfl
@[simp] theorem State.pendStore_flight_pb (s : State) (a : Word) (z : Access) (v : Word) :
    (s.pendStore a z v).flight.pb = s.flight.pb := rfl
@[simp] theorem State.pendStore_flight_pmLoads (s : State) (a : Word) (z : Access) (v : Word) :
    (s.pendStore a z v).flight.pmLoads = s.flight.pmLoads := rfl
@[simp] theorem State.pendStore_flight_pmStores (s : State) (a : Word) (z : Access) (v : Word) :
    (s.pendStore a z v).flight.pmStores = s.flight.pmStores ++ [⟨a, z, v, memLatency⟩] := rfl
@[simp] theorem State.pendStore_flight_psat (s : State) (a : Word) (z : Access) (v : Word) :
    (s.pendStore a z v).flight.psat = s.flight.psat := rfl
@[simp] theorem State.pendStore_flight_nopcnt (s : State) (a : Word) (z : Access) (v : Word) :
    (s.pendStore a z v).flight.nopcnt = s.flight.nopcnt := rfl
@[simp] theorem State.pendStore_flight_nopreq (s : State) (a : Word) (z : Access) (v : Word) :
    (s.pendStore a z v).flight.nopreq = s.flight.nopreq := rfl
@[simp] theorem State.pendStore_flight_idle (s : State) (a : Word) (z : Access) (v : Word) :
    (s.pendStore a z v).flight.idle = s.flight.idle := rfl
@[simp] theorem State.pendStore_flight_idlereq (s : State) (a : Word) (z : Access) (v : Word) :
    (s.pendStore a z v).flight.idlereq = s.flight.idlereq := rfl
@[simp] theorem State.pendStore_flight_bshadow (s : State) (a : Word) (z : Access) (v : Word) :
    (s.pendStore a z v).flight.bshadow = s.flight.bshadow := rfl

/-! `State.requestNop` -/

@[simp] theorem State.requestNop_params (s : State) (n : Nat) : (s.requestNop n).params = s.params := rfl
@[simp] theorem State.requestNop_regs (s : State) (n : Nat) : (s.requestNop n).regs = s.regs := rfl
@[simp] theorem State.requestNop_ctrl (s : State) (n : Nat) : (s.requestNop n).ctrl = s.ctrl := rfl
@[simp] theorem State.requestNop_pc (s : State) (n : Nat) : (s.requestNop n).pc = s.pc := rfl
@[simp] theorem State.requestNop_pce1 (s : State) (n : Nat) : (s.requestNop n).pce1 = s.pce1 := rfl
@[simp] theorem State.requestNop_mem (s : State) (n : Nat) : (s.requestNop n).mem = s.mem := rfl
@[simp] theorem State.requestNop_env (s : State) (n : Nat) : (s.requestNop n).env = s.env := rfl
@[simp] theorem State.requestNop_flight_pw (s : State) (n : Nat) :
    (s.requestNop n).flight.pw = s.flight.pw := rfl
@[simp] theorem State.requestNop_flight_pb (s : State) (n : Nat) :
    (s.requestNop n).flight.pb = s.flight.pb := rfl
@[simp] theorem State.requestNop_flight_pmLoads (s : State) (n : Nat) :
    (s.requestNop n).flight.pmLoads = s.flight.pmLoads := rfl
@[simp] theorem State.requestNop_flight_pmStores (s : State) (n : Nat) :
    (s.requestNop n).flight.pmStores = s.flight.pmStores := rfl
@[simp] theorem State.requestNop_flight_psat (s : State) (n : Nat) :
    (s.requestNop n).flight.psat = s.flight.psat := rfl
@[simp] theorem State.requestNop_flight_nopcnt (s : State) (n : Nat) :
    (s.requestNop n).flight.nopcnt = s.flight.nopcnt := rfl
@[simp] theorem State.requestNop_flight_nopreq (s : State) (n : Nat) :
    (s.requestNop n).flight.nopreq = max s.flight.nopreq (n - 1) := rfl
@[simp] theorem State.requestNop_flight_idle (s : State) (n : Nat) :
    (s.requestNop n).flight.idle = s.flight.idle := rfl
@[simp] theorem State.requestNop_flight_idlereq (s : State) (n : Nat) :
    (s.requestNop n).flight.idlereq = s.flight.idlereq := rfl
@[simp] theorem State.requestNop_flight_bshadow (s : State) (n : Nat) :
    (s.requestNop n).flight.bshadow = s.flight.bshadow := rfl

/-! `State.requestIdle` -/

@[simp] theorem State.requestIdle_params (s : State) : (s.requestIdle).params = s.params := rfl
@[simp] theorem State.requestIdle_regs (s : State) : (s.requestIdle).regs = s.regs := rfl
@[simp] theorem State.requestIdle_ctrl (s : State) : (s.requestIdle).ctrl = s.ctrl := rfl
@[simp] theorem State.requestIdle_pc (s : State) : (s.requestIdle).pc = s.pc := rfl
@[simp] theorem State.requestIdle_pce1 (s : State) : (s.requestIdle).pce1 = s.pce1 := rfl
@[simp] theorem State.requestIdle_mem (s : State) : (s.requestIdle).mem = s.mem := rfl
@[simp] theorem State.requestIdle_env (s : State) : (s.requestIdle).env = s.env := rfl
@[simp] theorem State.requestIdle_flight_pw (s : State) :
    (s.requestIdle).flight.pw = s.flight.pw := rfl
@[simp] theorem State.requestIdle_flight_pb (s : State) :
    (s.requestIdle).flight.pb = s.flight.pb := rfl
@[simp] theorem State.requestIdle_flight_pmLoads (s : State) :
    (s.requestIdle).flight.pmLoads = s.flight.pmLoads := rfl
@[simp] theorem State.requestIdle_flight_pmStores (s : State) :
    (s.requestIdle).flight.pmStores = s.flight.pmStores := rfl
@[simp] theorem State.requestIdle_flight_psat (s : State) :
    (s.requestIdle).flight.psat = s.flight.psat := rfl
@[simp] theorem State.requestIdle_flight_nopcnt (s : State) :
    (s.requestIdle).flight.nopcnt = s.flight.nopcnt := rfl
@[simp] theorem State.requestIdle_flight_nopreq (s : State) :
    (s.requestIdle).flight.nopreq = s.flight.nopreq := rfl
@[simp] theorem State.requestIdle_flight_idle (s : State) :
    (s.requestIdle).flight.idle = s.flight.idle := rfl
@[simp] theorem State.requestIdle_flight_idlereq (s : State) :
    (s.requestIdle).flight.idlereq = true := rfl
@[simp] theorem State.requestIdle_flight_bshadow (s : State) :
    (s.requestIdle).flight.bshadow = s.flight.bshadow := rfl

/-! `State.pendSatIf` -/

@[simp] theorem State.pendSatIf_params (s : State) (b : Bool) (d : Nat) : (s.pendSatIf b d).params = s.params := by
  cases b <;> rfl
@[simp] theorem State.pendSatIf_regs (s : State) (b : Bool) (d : Nat) : (s.pendSatIf b d).regs = s.regs := by
  cases b <;> rfl
@[simp] theorem State.pendSatIf_ctrl (s : State) (b : Bool) (d : Nat) : (s.pendSatIf b d).ctrl = s.ctrl := by
  cases b <;> rfl
@[simp] theorem State.pendSatIf_pc (s : State) (b : Bool) (d : Nat) : (s.pendSatIf b d).pc = s.pc := by
  cases b <;> rfl
@[simp] theorem State.pendSatIf_pce1 (s : State) (b : Bool) (d : Nat) : (s.pendSatIf b d).pce1 = s.pce1 := by
  cases b <;> rfl
@[simp] theorem State.pendSatIf_mem (s : State) (b : Bool) (d : Nat) : (s.pendSatIf b d).mem = s.mem := by
  cases b <;> rfl
@[simp] theorem State.pendSatIf_env (s : State) (b : Bool) (d : Nat) : (s.pendSatIf b d).env = s.env := by
  cases b <;> rfl
@[simp] theorem State.pendSatIf_flight_pw (s : State) (b : Bool) (d : Nat) :
    (s.pendSatIf b d).flight.pw = s.flight.pw := by
  cases b <;> rfl
@[simp] theorem State.pendSatIf_flight_pb (s : State) (b : Bool) (d : Nat) :
    (s.pendSatIf b d).flight.pb = s.flight.pb := by
  cases b <;> rfl
@[simp] theorem State.pendSatIf_flight_pmLoads (s : State) (b : Bool) (d : Nat) :
    (s.pendSatIf b d).flight.pmLoads = s.flight.pmLoads := by
  cases b <;> rfl
@[simp] theorem State.pendSatIf_flight_pmStores (s : State) (b : Bool) (d : Nat) :
    (s.pendSatIf b d).flight.pmStores = s.flight.pmStores := by
  cases b <;> rfl
@[simp] theorem State.pendSatIf_flight_psat (s : State) (b : Bool) (d : Nat) :
    (s.pendSatIf b d).flight.psat = s.flight.psat ++ (if b then [d + 1] else []) := by
  cases b <;> simp [State.pendSatIf]
@[simp] theorem State.pendSatIf_flight_nopcnt (s : State) (b : Bool) (d : Nat) :
    (s.pendSatIf b d).flight.nopcnt = s.flight.nopcnt := by
  cases b <;> rfl
@[simp] theorem State.pendSatIf_flight_nopreq (s : State) (b : Bool) (d : Nat) :
    (s.pendSatIf b d).flight.nopreq = s.flight.nopreq := by
  cases b <;> rfl
@[simp] theorem State.pendSatIf_flight_idle (s : State) (b : Bool) (d : Nat) :
    (s.pendSatIf b d).flight.idle = s.flight.idle := by
  cases b <;> rfl
@[simp] theorem State.pendSatIf_flight_idlereq (s : State) (b : Bool) (d : Nat) :
    (s.pendSatIf b d).flight.idlereq = s.flight.idlereq := by
  cases b <;> rfl
@[simp] theorem State.pendSatIf_flight_bshadow (s : State) (b : Bool) (d : Nat) :
    (s.pendSatIf b d).flight.bshadow = s.flight.bshadow := by
  cases b <;> rfl

/-! `State.putBase` -/

@[simp] theorem State.putBase_params (s : State) (y : Side) (r : RegNum) (u : Option Word) :
    (s.putBase y r u).params = s.params := by
  cases u <;> rfl
@[simp] theorem State.putBase_regs (s : State) (y : Side) (r : RegNum) (u : Option Word) :
    (s.putBase y r u).regs = s.regs := by
  cases u <;> rfl
@[simp] theorem State.putBase_ctrl (s : State) (y : Side) (r : RegNum) (u : Option Word) :
    (s.putBase y r u).ctrl = s.ctrl := by
  cases u <;> rfl
@[simp] theorem State.putBase_pc (s : State) (y : Side) (r : RegNum) (u : Option Word) :
    (s.putBase y r u).pc = s.pc := by
  cases u <;> rfl
@[simp] theorem State.putBase_pce1 (s : State) (y : Side) (r : RegNum) (u : Option Word) :
    (s.putBase y r u).pce1 = s.pce1 := by
  cases u <;> rfl
@[simp] theorem State.putBase_mem (s : State) (y : Side) (r : RegNum) (u : Option Word) :
    (s.putBase y r u).mem = s.mem := by
  cases u <;> rfl
@[simp] theorem State.putBase_env (s : State) (y : Side) (r : RegNum) (u : Option Word) :
    (s.putBase y r u).env = s.env := by
  cases u <;> rfl
@[simp] theorem State.putBase_flight_pw (s : State) (y : Side) (r : RegNum) (u : Option Word) :
    (s.putBase y r u).flight.pw = s.flight.pw ++ (u.map fun v => (⟨.gpr y r, v, 0⟩ : Write)).toList := by
  cases u <;> simp [State.putBase]
@[simp] theorem State.putBase_flight_pb (s : State) (y : Side) (r : RegNum) (u : Option Word) :
    (s.putBase y r u).flight.pb = s.flight.pb := by
  cases u <;> rfl
@[simp] theorem State.putBase_flight_pmLoads (s : State) (y : Side) (r : RegNum) (u : Option Word) :
    (s.putBase y r u).flight.pmLoads = s.flight.pmLoads := by
  cases u <;> rfl
@[simp] theorem State.putBase_flight_pmStores (s : State) (y : Side) (r : RegNum) (u : Option Word) :
    (s.putBase y r u).flight.pmStores = s.flight.pmStores := by
  cases u <;> rfl
@[simp] theorem State.putBase_flight_psat (s : State) (y : Side) (r : RegNum) (u : Option Word) :
    (s.putBase y r u).flight.psat = s.flight.psat := by
  cases u <;> rfl
@[simp] theorem State.putBase_flight_nopcnt (s : State) (y : Side) (r : RegNum) (u : Option Word) :
    (s.putBase y r u).flight.nopcnt = s.flight.nopcnt := by
  cases u <;> rfl
@[simp] theorem State.putBase_flight_nopreq (s : State) (y : Side) (r : RegNum) (u : Option Word) :
    (s.putBase y r u).flight.nopreq = s.flight.nopreq := by
  cases u <;> rfl
@[simp] theorem State.putBase_flight_idle (s : State) (y : Side) (r : RegNum) (u : Option Word) :
    (s.putBase y r u).flight.idle = s.flight.idle := by
  cases u <;> rfl
@[simp] theorem State.putBase_flight_idlereq (s : State) (y : Side) (r : RegNum) (u : Option Word) :
    (s.putBase y r u).flight.idlereq = s.flight.idlereq := by
  cases u <;> rfl
@[simp] theorem State.putBase_flight_bshadow (s : State) (y : Side) (r : RegNum) (u : Option Word) :
    (s.putBase y r u).flight.bshadow = s.flight.bshadow := by
  cases u <;> rfl

/-! ### The phases of a cycle -/

/-! `raiseFlags` -/

@[simp] theorem raiseFlags_params (s : State) (w : Word) :
    (raiseFlags s w).params = s.params := rfl
@[simp] theorem raiseFlags_regs (s : State) (w : Word) :
    (raiseFlags s w).regs = s.regs := rfl
@[simp] theorem raiseFlags_ctrl (s : State) (w : Word) :
    (raiseFlags s w).ctrl = { s.ctrl with ifr := s.ctrl.ifr ||| (w &&& requestFlags) } := rfl
@[simp] theorem raiseFlags_pc (s : State) (w : Word) :
    (raiseFlags s w).pc = s.pc := rfl
@[simp] theorem raiseFlags_pce1 (s : State) (w : Word) :
    (raiseFlags s w).pce1 = s.pce1 := rfl
@[simp] theorem raiseFlags_mem (s : State) (w : Word) :
    (raiseFlags s w).mem = s.mem := rfl
@[simp] theorem raiseFlags_flight (s : State) (w : Word) :
    (raiseFlags s w).flight = s.flight := rfl
@[simp] theorem raiseFlags_env (s : State) (w : Word) :
    (raiseFlags s w).env = s.env := rfl

/-! `advanceEnv` -/

@[simp] theorem State.advanceEnv_params (s : State) :
    (s.advanceEnv).params = s.params := rfl
@[simp] theorem State.advanceEnv_regs (s : State) :
    (s.advanceEnv).regs = s.regs := rfl
@[simp] theorem State.advanceEnv_ctrl (s : State) :
    (s.advanceEnv).ctrl = s.ctrl := rfl
@[simp] theorem State.advanceEnv_pc (s : State) :
    (s.advanceEnv).pc = s.pc := rfl
@[simp] theorem State.advanceEnv_pce1 (s : State) :
    (s.advanceEnv).pce1 = s.pce1 := rfl
@[simp] theorem State.advanceEnv_mem (s : State) :
    (s.advanceEnv).mem = s.mem := rfl
@[simp] theorem State.advanceEnv_flight (s : State) :
    (s.advanceEnv).flight = s.flight := rfl
@[simp] theorem State.advanceEnv_env (s : State) :
    (s.advanceEnv).env = s.env.tail := rfl

/-! `landSat` -/

@[simp] theorem landSat_params (s : State) :
    (landSat s).params = s.params := rfl
@[simp] theorem landSat_regs (s : State) :
    (landSat s).regs = s.regs := rfl
@[simp] theorem landSat_ctrl (s : State) :
    (landSat s).ctrl = { s.ctrl with csr := if s.flight.psat.any (· == 0) then setSat s.ctrl.csr else s.ctrl.csr } := rfl
@[simp] theorem landSat_pc (s : State) :
    (landSat s).pc = s.pc := rfl
@[simp] theorem landSat_pce1 (s : State) :
    (landSat s).pce1 = s.pce1 := rfl
@[simp] theorem landSat_mem (s : State) :
    (landSat s).mem = s.mem := rfl
@[simp] theorem landSat_flight (s : State) :
    (landSat s).flight = { s.flight with psat := (s.flight.psat.filter (· != 0)).map (· - 1) } := rfl
@[simp] theorem landSat_env (s : State) :
    (landSat s).env = s.env := rfl

/-! `resetEntry` -/

@[simp] theorem resetEntry_params (s : State) :
    (resetEntry s).params = s.params := rfl
@[simp] theorem resetEntry_regs (s : State) :
    (resetEntry s).regs = Regs.reset := rfl
@[simp] theorem resetEntry_ctrl (s : State) :
    (resetEntry s).ctrl = Ctrl.reset s.params := rfl
@[simp] theorem resetEntry_pc (s : State) :
    (resetEntry s).pc = 0 := rfl
@[simp] theorem resetEntry_pce1 (s : State) :
    (resetEntry s).pce1 = 0 := rfl
@[simp] theorem resetEntry_mem (s : State) :
    (resetEntry s).mem = s.mem := rfl
@[simp] theorem resetEntry_flight (s : State) :
    (resetEntry s).flight = Flight.empty := rfl
@[simp] theorem resetEntry_env (s : State) :
    (resetEntry s).env = s.env := rfl

/-! `enterInterrupt` -/

@[simp] theorem enterInterrupt_params (s : State) (n : Nat) :
    (enterInterrupt n s).params = s.params := rfl
@[simp] theorem enterInterrupt_regs (s : State) (n : Nat) :
    (enterInterrupt n s).regs = s.regs := rfl
@[simp] theorem enterInterrupt_ctrl (s : State) (n : Nat) :
    (enterInterrupt n s).ctrl = s.ctrl.entry n s.pc := rfl
@[simp] theorem enterInterrupt_pc (s : State) (n : Nat) :
    (enterInterrupt n s).pc = serviceAddress s.ctrl n := rfl
@[simp] theorem enterInterrupt_pce1 (s : State) (n : Nat) :
    (enterInterrupt n s).pce1 = s.pce1 := rfl
@[simp] theorem enterInterrupt_mem (s : State) (n : Nat) :
    (enterInterrupt n s).mem = s.mem := rfl
@[simp] theorem enterInterrupt_flight (s : State) (n : Nat) :
    (enterInterrupt n s).flight = { s.flight with nopcnt := 0, idle := false } := rfl
@[simp] theorem enterInterrupt_env (s : State) (n : Nat) :
    (enterInterrupt n s).env = s.env := rfl

/-! `closeCycle` -/

@[simp] theorem closeCycle_params (s : State) (b : Bool) :
    (closeCycle b s).params = s.params := rfl
@[simp] theorem closeCycle_regs (s : State) (b : Bool) :
    (closeCycle b s).regs = s.regs := rfl
@[simp] theorem closeCycle_ctrl (s : State) (b : Bool) :
    (closeCycle b s).ctrl = s.ctrl := rfl
@[simp] theorem closeCycle_pc (s : State) (b : Bool) :
    (closeCycle b s).pc = s.pc := rfl
@[simp] theorem closeCycle_pce1 (s : State) (b : Bool) :
    (closeCycle b s).pce1 = s.pce1 := rfl
@[simp] theorem closeCycle_mem (s : State) (b : Bool) :
    (closeCycle b s).mem = s.mem := rfl
@[simp] theorem closeCycle_flight (s : State) (b : Bool) :
    (closeCycle b s).flight = { s.flight with
      nopcnt := s.flight.nopcnt + s.flight.nopreq
      nopreq := 0
      idle := s.flight.idle || s.flight.idlereq
      idlereq := false
      bshadow := if b then 5 else s.flight.bshadow - 1 } := rfl
@[simp] theorem closeCycle_env (s : State) (b : Bool) :
    (closeCycle b s).env = s.env := rfl

/-! `applyWrite` -/

@[simp] theorem applyWrite_params (s : State) (w : Write) : (applyWrite s w).params = s.params := by
  unfold applyWrite; split <;> rfl
@[simp] theorem applyWrite_pc (s : State) (w : Write) : (applyWrite s w).pc = s.pc := by
  unfold applyWrite; split <;> rfl
@[simp] theorem applyWrite_pce1 (s : State) (w : Write) : (applyWrite s w).pce1 = s.pce1 := by
  unfold applyWrite; split <;> rfl
@[simp] theorem applyWrite_mem (s : State) (w : Write) : (applyWrite s w).mem = s.mem := by
  unfold applyWrite; split <;> rfl
@[simp] theorem applyWrite_flight (s : State) (w : Write) : (applyWrite s w).flight = s.flight := by
  unfold applyWrite; split <;> rfl
@[simp] theorem applyWrite_env (s : State) (w : Write) : (applyWrite s w).env = s.env := by
  unfold applyWrite; split <;> rfl
@[simp] theorem foldl_applyWrite_params (ws : List Write) (s : State) :
    (ws.foldl applyWrite s).params = s.params := by
  induction ws generalizing s <;> simp_all
@[simp] theorem foldl_applyWrite_pc (ws : List Write) (s : State) :
    (ws.foldl applyWrite s).pc = s.pc := by
  induction ws generalizing s <;> simp_all
@[simp] theorem foldl_applyWrite_pce1 (ws : List Write) (s : State) :
    (ws.foldl applyWrite s).pce1 = s.pce1 := by
  induction ws generalizing s <;> simp_all
@[simp] theorem foldl_applyWrite_mem (ws : List Write) (s : State) :
    (ws.foldl applyWrite s).mem = s.mem := by
  induction ws generalizing s <;> simp_all
@[simp] theorem foldl_applyWrite_flight (ws : List Write) (s : State) :
    (ws.foldl applyWrite s).flight = s.flight := by
  induction ws generalizing s <;> simp_all
@[simp] theorem foldl_applyWrite_env (ws : List Write) (s : State) :
    (ws.foldl applyWrite s).env = s.env := by
  induction ws generalizing s <;> simp_all

end Sys2Proof.Machine
end

