-- ==== Sys2Proof/Laws/Memory.lean ====
section
/-! SUPPORT. The laws of memory: a read after a write, and that every operation keeps the canonical form. -/
namespace Sys2Proof.Machine

/-- All addresses of a memory lie above `a`. -/
def above (a : Nat) (m : Memory) : Prop := ∀ c ∈ m, a < c.1

/-- The canonical form of a nonempty memory. -/
theorem Memory.wf_cons {k : Nat} {v : Byte} {m : Memory} :
    Memory.wf ((k, v) :: m) = true ↔ k < 2 ^ 32 ∧ v ≠ unlistedByte ∧ above k m ∧ m.wf = true := by
  simp [Memory.wf, above, and_assoc]

/-- Below the first listed address memory reads as unlisted. -/
theorem readByte_of_above {m : Memory} {a : Nat} (h : above a m) : readByte m a = unlistedByte := by
  induction m with
  | nil => rfl
  | cons c m ih =>
    have hc : a < c.1 := h c (by simp)
    have : ¬ c.1 = a := by omega
    simp only [readByte, this, if_false]
    exact ih fun d hd => h d (by simp [hd])

theorem readByte_consByte {m : Memory} {a b : Nat} {v : Byte} (h : above a m) :
    readByte (consByte a v m) b = if a = b then v else readByte m b := by
  unfold consByte
  split
  · rename_i hv
    split
    · rename_i hab; rw [← hab, readByte_of_above h, hv]
    · rfl
  · rfl

theorem consByte_wf {m : Memory} {a : Nat} {v : Byte} (ha : a < 2 ^ 32) (h : above a m) (hm : m.wf = true) :
    (consByte a v m).wf = true := by
  unfold consByte
  split
  · exact hm
  · rename_i hv; exact Memory.wf_cons.2 ⟨ha, hv, h, hm⟩

theorem above_consByte {m : Memory} {a k : Nat} {v : Byte} (hk : k < a) (h : above k m) : above k (consByte a v m) := by
  unfold consByte
  split
  · exact h
  · intro c hc
    rcases List.mem_cons.1 hc with rfl | hc
    · exact hk
    · exact h c hc

theorem above_writeByte {m : Memory} {a k : Nat} {v : Byte} (hk : k < a) (h : above k m) : above k (writeByte m a v) := by
  induction m with
  | nil => exact above_consByte hk h
  | cons c m ih =>
    have hm : above k m := fun d hd => h d (by simp [hd])
    obtain ⟨q, x⟩ := c
    have hq : k < q := h (q, x) (by simp)
    simp only [writeByte]
    split
    · exact above_consByte hk h
    · split
      · exact above_consByte hk hm
      · intro d hd
        rcases List.mem_cons.1 hd with rfl | hd
        · exact hq
        · exact ih hm d hd

/-- A read after a write gives the value written, and every other address reads as before. -/
theorem readByte_writeByte {m : Memory} (hm : m.wf = true) (a b : Nat) (v : Byte) :
    readByte (writeByte m a v) b = if a = b then v else readByte m b := by
  induction m with
  | nil => exact readByte_consByte (by simp [above])
  | cons c m ih =>
    obtain ⟨k, x⟩ := c
    obtain ⟨_, _, hk, hm'⟩ := Memory.wf_cons.1 hm
    simp only [writeByte]
    split
    · rename_i hlt
      refine readByte_consByte fun d hd => ?_
      rcases List.mem_cons.1 hd with rfl | hd
      · exact hlt
      · exact lt_trans hlt (hk d hd)
    · split
      · rename_i _ hak
        subst hak
        rw [readByte_consByte hk]
        simp only [readByte]
        split <;> simp_all
      · rename_i _ hne
        simp only [readByte]
        by_cases hkb : k = b
        · have : ¬ a = b := by omega
          simp [hkb, this]
        · simp only [hkb, if_false]; exact ih hm'

/-- Writing a byte keeps the canonical form. -/
theorem writeByte_wf {m : Memory} (hm : m.wf = true) {a : Nat} (ha : a < 2 ^ 32) (v : Byte) :
    (writeByte m a v).wf = true := by
  induction m with
  | nil => exact consByte_wf ha (by simp [above]) rfl
  | cons c m ih =>
    obtain ⟨k, x⟩ := c
    obtain ⟨h1, h2, hk, hm'⟩ := Memory.wf_cons.1 hm
    simp only [writeByte]
    split
    · rename_i hlt
      refine consByte_wf ha (fun d hd => ?_) hm
      rcases List.mem_cons.1 hd with rfl | hd
      · exact hlt
      · exact lt_trans hlt (hk d hd)
    · split
      · rename_i _ hak; subst hak; exact consByte_wf ha hk hm'
      · exact Memory.wf_cons.2 ⟨h1, h2, above_writeByte (by omega) hk, ih hm'⟩

/-- Writing bytes keeps the canonical form. -/
theorem writeBytes_wf {m : Memory} (hm : m.wf = true) {a : Nat} (l : List Byte) (ha : a + l.length ≤ 2 ^ 32) :
    (writeBytes m a l).wf = true := by
  induction l generalizing m a with
  | nil => exact hm
  | cons b l ih =>
    simp only [List.length_cons] at ha
    exact ih (writeByte_wf hm (by omega) b) (by omega)

/-- Outside the bytes written memory reads as before, whatever its form. -/
theorem readByte_writeByte_ne (m : Memory) {a b : Nat} (v : Byte) (h : a ≠ b) :
    readByte (writeByte m a v) b = readByte m b := by
  induction m with
  | nil => simp only [writeByte, consByte]; split <;> simp [readByte, h]
  | cons c m ih =>
    obtain ⟨k, x⟩ := c
    simp only [writeByte, consByte]
    split_ifs <;> simp_all [readByte]

theorem readByte_writeBytes_outside (m : Memory) {a b : Nat} (l : List Byte) (h : b < a ∨ a + l.length ≤ b) :
    readByte (writeBytes m a l) b = readByte m b := by
  induction l generalizing m a with
  | nil => rfl
  | cons x l ih =>
    simp only [List.length_cons] at h
    rw [writeBytes, ih _ (by omega), readByte_writeByte_ne _ _ (by omega)]

/-- Reading the bytes that were written. -/
theorem bytesAt_writeBytes {m : Memory} (hm : m.wf = true) {a : Nat} (l : List Byte) (ha : a + l.length ≤ 2 ^ 32) :
    bytesAt (writeBytes m a l) a l.length = l := by
  induction l generalizing m a with
  | nil => rfl
  | cons b l ih =>
    simp only [List.length_cons] at ha
    simp only [List.length_cons, bytesAt, writeBytes]
    rw [readByte_writeBytes_outside _ _ (by omega), readByte_writeByte hm, if_pos rfl,
      ih (writeByte_wf hm (by omega) b) (by omega)]

@[simp] theorem bytesOfNat_length (v n : Nat) : (bytesOfNat v n).length = n := by
  induction n generalizing v <;> simp_all [bytesOfNat]

@[simp] theorem bytesAt_length (m : Memory) (a n : Nat) : (bytesAt m a n).length = n := by
  induction n generalizing a <;> simp_all [bytesAt]

@[simp] theorem byteOrder_length (e : Endian) (l : List Byte) : (byteOrder e l).length = l.length := by
  cases e <;> simp [byteOrder]

@[simp] theorem byteOrder_byteOrder (e : Endian) (l : List Byte) : byteOrder e (byteOrder e l) = l := by
  cases e <;> simp [byteOrder]

/-- MemWrite keeps the canonical form. -/
theorem memWrite_wf {m : Memory} (hm : m.wf = true) (e : Endian) {a n : Nat} (v : Nat) (ha : a + n ≤ 2 ^ 32) :
    (memWrite e m a n v).wf = true := writeBytes_wf hm _ (by simpa using ha)

/-- MemWrite leaves every byte outside the access alone. -/
theorem readByte_memWrite_outside (e : Endian) (m : Memory) {a n b : Nat} (v : Nat) (h : b < a ∨ a + n ≤ b) :
    readByte (memWrite e m a n v) b = readByte m b := readByte_writeBytes_outside _ _ (by simpa using h)

/-- An aligned access ends within the address space. -/
theorem aligned_end {z : Access} {a : Word} (h : aligned z a = true) : a.toNat + z.bytes ≤ 2 ^ 32 := by
  have hlt : a.toNat < 2 ^ 32 := a.isLt
  have hal : a.toNat % z.bytes = 0 := of_decide_eq_true h
  cases z <;> simp only [Access.bytes] at hal ⊢ <;> omega

/-- Aligned stores keep the canonical form. -/
theorem performStores_wf (e : Endian) (ts : List Store) {m : Memory} (hm : m.wf = true)
    (h : ∀ t ∈ ts, aligned t.size t.addr = true) : (ts.foldl (performStore e) m).wf = true := by
  induction ts generalizing m with
  | nil => exact hm
  | cons t ts ih =>
    refine ih (memWrite_wf hm e _ (aligned_end (h t (by simp)))) fun u hu => h u (by simp [hu])

/-- Stores change only the bytes they cover. -/
theorem readByte_performStores (e : Endian) (ts : List Store) (m : Memory) (b : Nat)
    (h : ∀ t ∈ ts, b < t.addr.toNat ∨ t.addr.toNat + t.size.bytes ≤ b) :
    readByte (ts.foldl (performStore e) m) b = readByte m b := by
  induction ts generalizing m with
  | nil => rfl
  | cons t ts ih =>
    rw [List.foldl_cons, ih _ fun u hu => h u (by simp [hu])]
    exact readByte_memWrite_outside e m _ (h t (by simp))

/-- The memory right after reset has the canonical form. -/
theorem reset_mem_wf : State.reset.mem.wf = true := rfl

end Sys2Proof.Machine
end

