-- ==== Sys2Proof/Laws/Ops.lean ====
section
/-! SUPPORT. What each shared operation can do, said once: if it answers a next state, then one of these cases holds. -/
namespace Sys2Proof.Machine

/-! ### Registers -/

/-- Reading a register file after a write: the one written has the value, every other one is unchanged. -/
theorem Regs.get_set (r : Regs) (s t : Side) (m n : RegNum) (v : Word) :
    (r.set s m v).get t n = if s = t ∧ m = n then v else r.get t n := by
  cases s <;> cases t <;> simp [Regs.set, Regs.get, Regs.file, Vector.getElem_set, BitVec.toNat_inj]

@[simp] theorem Regs.get_set_same (r : Regs) (s : Side) (n : RegNum) (v : Word) : (r.set s n v).get s n = v := by
  simp [Regs.get_set]

/-- Reading a register of a state depends on its register files only. -/
theorem gpr_congr {s t : State} (h : s.regs = t.regs) (side : Side) (n : RegNum) : s.gpr side n = t.gpr side n := by
  simp [State.gpr, h]

/-! ### Sequencing -/

/-- A sequence answers a next state exactly when both parts do. -/
theorem andThen_eq_next {r : Result} {f : State → Result} {t : State} :
    andThen r f = .next t ↔ ∃ s, r = .next s ∧ f s = .next t := by
  cases r <;> simp [andThen]

@[simp] theorem andThen_next (s : State) (f : State → Result) : andThen (.next s) f = f s := rfl
@[simp] theorem andThen_fault (e : Fault) (f : State → Result) : andThen (.fault e) f = .fault e := rfl

theorem next_eq_next {s t : State} : (.next s : Result) = .next t ↔ t = s := by
  constructor <;> (intro h; cases h; rfl)

/-! ### The guard -/

/-- The guard lets exactly the well-formed instructions pass. -/
theorem illegality_eq_none_iff (v : Variant) (i : Instr) : illegality v i = none ↔ wf v i = true := by
  unfold illegality wf
  cases condExists v i <;> cases cstFits v i <;> cases dwordExists v i <;> cases dwordEven i <;>
    cases regsExist v i <;> cases pairsEven i <;> cases ctrlLegal v i <;> simp

/-- A well-formed instruction whose condition holds does what its body says. -/
theorem issue_of_ready {i : Instr} {s : State} {body : Result} (hw : wf s.params.variant i = true)
    (hc : condHolds s i.demand.cond = true) : issue i s body = body := by
  simp [issue, (illegality_eq_none_iff _ _).2 hw, hc]

/-- A well-formed instruction whose condition does not hold does nothing. -/
theorem issue_of_not_cond {i : Instr} {s : State} {body : Result} (hw : wf s.params.variant i = true)
    (hc : condHolds s i.demand.cond = false) : issue i s body = .next s := by
  simp [issue, (illegality_eq_none_iff _ _).2 hw, hc]

/-- What the guard can do: nothing, or the body. -/
theorem issue_eq_next {i : Instr} {s t : State} {body : Result} (h : issue i s body = .next t) :
    wf s.params.variant i = true ∧
      ((condHolds s i.demand.cond = false ∧ t = s) ∨ (condHolds s i.demand.cond = true ∧ body = .next t)) := by
  unfold issue at h
  split at h
  · cases h
  · rename_i hi
    refine ⟨(illegality_eq_none_iff _ _).1 hi, ?_⟩
    cases hc : condHolds s i.demand.cond <;> simp_all

/-! ### Effects put in flight -/

/-- A branch is put in flight when its target is a multiple of 4. -/
theorem branchTo_eq_next {s t : State} {a : Word} {k : BranchKind} :
    s.branchTo a k = .next t ↔ a.toNat % 4 = 0 ∧ t = s.pendBranch a k := by
  unfold State.branchTo; split <;> simp_all [next_eq_next, -Host.Outcome.next.injEq]

/-- A load of format LSR: the base update and one PM entry at the computed address. -/
theorem loadLsr_eq_next {s t : State} {o : MemForm} {z : Access} {g : Bool} :
    s.loadLsr o z g = .next t ↔ ∃ a u, s.lsrAddress o z = .ok (a, u) ∧ aligned z a = true ∧
      t = (s.putBase o.y o.base u).pendLoad a z g o.side o.data := by
  unfold State.loadLsr
  cases h : s.lsrAddress o z with
  | error f => simp
  | ok p =>
    obtain ⟨a, u⟩ := p
    cases ha : aligned z a <;> simp [ha, next_eq_next, -Host.Outcome.next.injEq]

/-- A store of format LSR: the base update and one PM entry at the computed address. -/
theorem storeLsr_eq_next {s t : State} {o : MemForm} {z : Access} :
    s.storeLsr o z = .next t ↔ ∃ a u, s.lsrAddress o z = .ok (a, u) ∧ aligned z a = true ∧
      t = (s.putBase o.y o.base u).pendStore a z (s.gpr o.side o.data) := by
  unfold State.storeLsr
  cases h : s.lsrAddress o z with
  | error f => simp
  | ok p =>
    obtain ⟨a, u⟩ := p
    cases ha : aligned z a <;> simp [ha, next_eq_next, -Host.Outcome.next.injEq]

/-- A load of format LS15. -/
theorem load15_eq_next {s t : State} {o : Mem15Form} {z : Access} {g : Bool} :
    s.load15 o z g = .next t ↔ aligned z (s.ls15Address o z) = true ∧
      t = s.pendLoad (s.ls15Address o z) z g o.side o.data := by
  unfold State.load15; split <;> simp_all [next_eq_next, -Host.Outcome.next.injEq]

/-- A store of format LS15. -/
theorem store15_eq_next {s t : State} {o : Mem15Form} {z : Access} :
    s.store15 o z = .next t ↔ aligned z (s.ls15Address o z) = true ∧
      t = s.pendStore (s.ls15Address o z) z (s.gpr o.side o.data) := by
  unfold State.store15; split <;> simp_all [next_eq_next, -Host.Outcome.next.injEq]

/-- Address arithmetic of the .D units. -/
theorem putAddress_eq_next {s t : State} {side : Side} {base dst : RegNum} {a : Word} {z : Access} {add : Bool} :
    s.putAddress side base dst a z add = .next t ↔
      ∃ v, s.address side base (a <<< z.scale) add = .ok v ∧ t = s.putWord side dst v 0 := by
  unfold State.putAddress
  cases s.address side base (a <<< z.scale) add <;> simp [next_eq_next, -Host.Outcome.next.injEq]

/-! ### The phases -/

/-- The loads that reach memory in this cycle. -/
def State.dueLoads (s : State) : List Load := s.flight.pmLoads.filter fun l => l.left == 0
/-- The stores that reach memory in this cycle. -/
def State.dueStores (s : State) : List Store := s.flight.pmStores.filter fun t => t.left == 0
/-- The writes that land in this cycle. -/
def State.dueWrites (s : State) : List Write := s.flight.pw.filter fun w => w.left == 0

/-- What the memory phase does when it answers a next state. -/
theorem memPhase_eq_next {s t : State} (h : memPhase s = .next t) :
    (∀ l ∈ s.dueLoads, s.accessible l.addr l.size = true) ∧ (∀ u ∈ s.dueStores, s.accessible u.addr u.size = true) ∧
    disjointStores s.dueStores = true ∧
    t = { s with
      mem := s.dueStores.foldl (performStore s.params.endian) s.mem
      flight := { s.flight with
        pw := s.flight.pw ++ s.dueLoads.flatMap (loadWrites s)
        pmLoads := (s.flight.pmLoads.filter fun l => l.left != 0).map fun l => { l with left := l.left - 1 }
        pmStores := (s.flight.pmStores.filter fun t => t.left != 0).map fun t => { t with left := t.left - 1 } } } := by
  unfold memPhase at h
  simp only at h
  split at h
  · cases h
  · rename_i h1
    split at h
    · cases h
    · rename_i h2
      simp only [Bool.or_eq_true, Bool.not_eq_true', not_or, Bool.not_eq_false] at h1 h2
      refine ⟨?_, ?_, h2, ?_⟩
      · simpa [State.dueLoads, imp_iff_not_or, or_assoc] using h1.1
      · simpa [State.dueStores, imp_iff_not_or, or_assoc] using h1.2
      · cases h; rfl

/-- The memory phase changes memory and what is in flight only. -/
theorem memPhase_frame {s t : State} (h : memPhase s = .next t) :
    t.params = s.params ∧ t.regs = s.regs ∧ t.ctrl = s.ctrl ∧ t.pc = s.pc ∧ t.pce1 = s.pce1 ∧ t.env = s.env := by
  obtain ⟨-, -, -, rfl⟩ := memPhase_eq_next h
  simp

/-- What landing does when it answers a next state: the due writes, applied in order. -/
theorem landWrites_eq_next {s t : State} (h : landWrites s = .next t) :
    distinct (s.dueWrites.map fun w => w.target.named) = true ∧
    t = { s.dueWrites.foldl applyWrite s with flight := { s.flight with
      pw := (s.flight.pw.filter fun w => w.left != 0).map fun w => { w with left := w.left - 1 } } } := by
  unfold landWrites at h
  simp only at h
  split at h
  · rename_i hd
    refine ⟨hd, ?_⟩
    cases h
    simp [State.dueWrites]
  · cases h

/-- What R155 step 5 does when it answers a next state. -/
theorem landPhase_eq_next {s t : State} {r : Word} (h : landPhase s r = .next t) :
    ∃ u, landWrites s = .next u ∧ t = raiseFlags (landSat u) r := by
  obtain ⟨u, hu, ht⟩ := andThen_eq_next.1 h
  exact ⟨u, hu, by cases ht; rfl⟩

/-- Landing leaves memory, pc, PCE1, the parameters and the environment alone. -/
theorem landPhase_frame {s t : State} {r : Word} (h : landPhase s r = .next t) :
    t.params = s.params ∧ t.pc = s.pc ∧ t.pce1 = s.pce1 ∧ t.mem = s.mem ∧ t.env = s.env ∧ t.flight.pb = s.flight.pb ∧
      t.flight.bshadow = s.flight.bshadow := by
  obtain ⟨u, hu, rfl⟩ := landPhase_eq_next h
  obtain ⟨-, rfl⟩ := landWrites_eq_next hu
  simp

/-- R155 step 6: no branch lands, or exactly one does. -/
theorem branchPhase_eq_next {s t : State} {next : Word} (h : branchPhase s next = .next t) :
    let rest := (s.flight.pb.filter fun b => b.left != 0).map fun b => { b with left := b.left - 1 }
    (s.flight.pb.filter (fun b => b.left == 0) = [] ∧ t = { s with pc := next, flight := { s.flight with pb := rest } }) ∨
    (∃ b, s.flight.pb.filter (fun b => b.left == 0) = [b] ∧
      t = { s with
        pc := b.target, ctrl := s.ctrl.afterBranch b.kind
        flight := { s.flight with pb := rest, nopcnt := 0, nopreq := 0 } }) := by
  unfold branchPhase at h
  simp only at h
  split at h
  · rename_i hb; cases h; exact .inl ⟨hb, rfl⟩
  · rename_i b hb; cases h; exact .inr ⟨b, hb, rfl⟩
  · cases h

/-- R155 steps 5 to 7 in three parts. -/
theorem endOfCycle_eq_next {r next : Word} {b : Bool} {s t : State} :
    endOfCycle r next b s = .next t ↔
      ∃ u v w, memPhase s = .next u ∧ landPhase u r = .next v ∧ branchPhase v next = .next w ∧ t = closeCycle b w := by
  constructor
  · intro h
    obtain ⟨u, hu, h⟩ := andThen_eq_next.1 h
    obtain ⟨v, hv, h⟩ := andThen_eq_next.1 h
    obtain ⟨w, hw, h⟩ := andThen_eq_next.1 h
    exact ⟨u, v, w, hu, hv, hw, by cases h; rfl⟩
  · rintro ⟨u, v, w, hu, hv, hw, rfl⟩
    simp [endOfCycle, hu, hv, hw]

/-- E1 of a packet, one instruction after another. -/
theorem execAll_cons_eq_next {i : Instr} {is : List Instr} {s t : State} :
    execAll (i :: is) s = .next t ↔ ∃ u, exec i s = .next u ∧ execAll is u = .next t := by
  simp only [execAll, andThen_eq_next]

/-- A property that E1 of every instruction keeps is kept by E1 of a packet. -/
theorem execAll_keeps {P : State → Prop} (hP : ∀ i s t, P s → exec i s = .next t → P t) :
    ∀ (is : List Instr) {s t : State}, P s → execAll is s = .next t → P t
  | [], s, t, h, he => by cases he; exact h
  | i :: is, s, t, h, he => by
    obtain ⟨u, hu, ht⟩ := execAll_cons_eq_next.1 he
    exact execAll_keeps hP is (hP i s u h hu) ht

/-- Item 6 of R162: it stops no packet exactly when every two instructions whose writes meet both have a true condition. -/
theorem sharedWritesOk_iff {s : State} {ds : List Demand} :
    sharedWritesOk s ds = true ↔
      ds.Pairwise fun d e => writesMeet d e = true → condHolds s d.cond = true ∧ condHolds s e.cond = true := by
  induction ds with
  | nil => simp [sharedWritesOk]
  | cons d ds ih => simp [sharedWritesOk, ih, imp_iff_not_or]

/-- The check of a packet is that of the constraints of R162. -/
theorem packetOk_iff {s : State} {ep : List Instr} :
    packetOk s ep = true ↔ resourcesOk ep = true ∧ sharedWritesOk s (ep.map Instr.demand) = true := by
  simp [packetOk]

/-- R155 steps 3 to 7. -/
theorem runPacket_eq_next {r : Word} {ep : List Instr} {s t : State} (h : runPacket r ep s = .next t) :
    packetOk s ep = true ∧ ∃ u, execAll ep { s with pce1 := fetchPacket s.pc } = .next u ∧
      endOfCycle r (s.pc + BitVec.ofNat 32 (4 * ep.length)) (ep.any fun i => i.demand.branch) u = .next t := by
  unfold runPacket at h
  split at h
  · rename_i hr; exact ⟨hr, andThen_eq_next.1 h⟩
  · cases h

/-- The three kinds of cycle in which no interrupt is taken. -/
theorem executeCycle_eq_next {r : Word} {s t : State} (h : executeCycle r s = .next t) :
    (s.flight.idle = true ∧ endOfCycle r s.pc false s = .next t) ∨
    (s.flight.idle = false ∧ s.flight.nopcnt ≠ 0 ∧
      endOfCycle r s.pc false { s with flight := { s.flight with nopcnt := s.flight.nopcnt - 1 } } = .next t) ∨
    (s.flight.idle = false ∧ s.flight.nopcnt = 0 ∧ ∃ ep, fetch s = .ok ep ∧ runPacket r ep s = .next t) := by
  unfold executeCycle at h
  split at h
  · rename_i hi; exact .inl ⟨hi, h⟩
  · rename_i hi
    simp only [Bool.not_eq_true] at hi
    split at h
    · rename_i hn; exact .inr (.inl ⟨hi, hn, h⟩)
    · rename_i hn
      refine .inr (.inr ⟨hi, by simpa using hn, ?_⟩)
      split at h
      · cases h
      · rename_i ep he; exact ⟨ep, he, h⟩

/-- What draining does to a property that the memory phase and landing keep. -/
theorem drain_keeps {P : State → Prop} {r : Word} (hm : ∀ s t, P s → memPhase s = .next t → P t)
    (hl : ∀ s t, P s → landPhase s r = .next t → P t) :
    ∀ (n : Nat) {s t : State}, P s → drain r n s = .next t → P t
  | 0, s, t, h, hd => by cases hd; exact h
  | n + 1, s, t, h, hd => by
    unfold drain at hd
    split at hd
    · cases hd; exact h
    · obtain ⟨u, hu, hd⟩ := andThen_eq_next.1 hd
      obtain ⟨v, hv, hd⟩ := andThen_eq_next.1 hd
      exact drain_keeps hm hl n (hl u v (hm s u h hu) hv) hd

/-- Taking an interrupt: the drained state, then the entry. -/
theorem takeInterrupt_eq_next {n : Nat} {r : Word} {s t : State} (h : takeInterrupt n r s = .next t) :
    ∃ u, drain r s.flight.drainTime s = .next u ∧ t = enterInterrupt n u := by
  obtain ⟨u, hu, h⟩ := andThen_eq_next.1 h
  exact ⟨u, hu, by cases h; rfl⟩

/-- The three things a step can be: reset, taking an interrupt, a cycle without either (R155). -/
theorem step_eq_next {s t : State} (h : step s = .next t) :
    (s.input.reset = true ∧ t = resetEntry s.advanceEnv) ∨
    (s.input.reset = false ∧ ∃ n, readyInterrupt (raiseFlags s.advanceEnv s.input.requests) = some n ∧
      s.input.hold = false ∧ takeInterrupt n s.input.requests (raiseFlags s.advanceEnv s.input.requests) = .next t) ∨
    (s.input.reset = false ∧
      (readyInterrupt (raiseFlags s.advanceEnv s.input.requests) = none ∨ s.input.hold = true) ∧
      executeCycle s.input.requests (raiseFlags s.advanceEnv s.input.requests) = .next t) := by
  unfold step cycle at h
  simp only at h
  split at h
  · rename_i hr; cases h; exact .inl ⟨hr, rfl⟩
  · rename_i hr
    simp only [Bool.not_eq_true] at hr
    split at h
    · rename_i n hn
      split at h
      · rename_i hh; exact .inr (.inr ⟨hr, .inr hh, h⟩)
      · rename_i hh; exact .inr (.inl ⟨hr, n, hn, by simpa using hh, h⟩)
    · rename_i hn; exact .inr (.inr ⟨hr, .inl hn, h⟩)

/-- A property that E1, the phases, the entry to an interrupt and reset keep is kept by every step. -/
theorem step_keeps {P : State → Prop}
    (hreset : ∀ s, P s → P (resetEntry s.advanceEnv))
    (hraise : ∀ s w, P s → P (raiseFlags s.advanceEnv w))
    (hpce1 : ∀ s, P s → P { s with pce1 := fetchPacket s.pc })
    (hnop : ∀ s, P s → P { s with flight := { s.flight with nopcnt := s.flight.nopcnt - 1 } })
    (hexec : ∀ i s t, P s → exec i s = .next t → P t)
    (hmem : ∀ s t, P s → memPhase s = .next t → P t)
    (hland : ∀ s t r, P s → landPhase s r = .next t → P t)
    (hbranch : ∀ s t next, P s → next.toNat % 4 = 0 → branchPhase s next = .next t → P t)
    (hclose : ∀ s b, P s → P (closeCycle b s))
    (henter : ∀ s n, P s → P (enterInterrupt n s))
    (hpc : ∀ s, P s → s.pc.toNat % 4 = 0)
    {s t : State} (hs : P s) (h : step s = .next t) : P t := by
  have hend : ∀ {r next b} {s t : State}, next.toNat % 4 = 0 → P s → endOfCycle r next b s = .next t → P t := by
    intro r next b s t hn hs h
    obtain ⟨u, v, w, hu, hv, hw, rfl⟩ := endOfCycle_eq_next.1 h
    exact hclose w b (hbranch v w next (hland u v r (hmem s u hs hu) hv) hn hw)
  rcases step_eq_next h with ⟨-, rfl⟩ | ⟨-, n, -, -, h⟩ | ⟨-, -, h⟩
  · exact hreset s hs
  · obtain ⟨u, hu, rfl⟩ := takeInterrupt_eq_next h
    exact henter u n (drain_keeps hmem (fun s t => hland s t _) _ (hraise s _ hs) hu)
  · have hr := hraise s s.input.requests hs
    rcases executeCycle_eq_next h with ⟨-, h⟩ | ⟨-, -, h⟩ | ⟨-, -, ep, -, h⟩
    · exact hend (hpc _ hr) hr h
    · exact hend (hpc _ hr) (hnop _ hr) h
    · obtain ⟨-, u, hu, h⟩ := runPacket_eq_next h
      refine hend ?_ (execAll_keeps hexec ep (hpce1 _ hr) hu) h
      have := hpc _ hr
      simp only [raiseFlags_pc, State.advanceEnv_pc, BitVec.toNat_add, BitVec.toNat_ofNat] at this ⊢
      omega

end Sys2Proof.Machine
end

