-- ==== Sys2Proof/Tests/Slice0.lean ====
section
/-! SUPPORT. The model's own tests. Words and expected results come from spec/opcode_table.json and spec/95_test_vectors.md; the
witnesses show for each statement a state and operands that meet its hypotheses. -/
namespace Sys2Proof.Tests
open Sys2Proof Sys2Proof.Machine

set_option Elab.async false

/-! ### Helpers -/

/-- A state as after reset, on a VARIANT and with a byte order. -/
def machine (v : Variant) (e : Endian) : State :=
  { State.reset with params := { Params.launch with variant := v, endian := e } }

/-- The state with registers written. -/
def withRegs (s : State) (l : List (Target × Word)) : State := l.foldl (fun s p => applyWrite s ⟨p.1, p.2, 0⟩) s

/-- Register A`n`. -/
def A (n : RegNum) : Target := .gpr .a n
/-- Register B`n`. -/
def B (n : RegNum) : Target := .gpr .b n

/-- Does a result go on? -/
def goesOn : Result → Bool
  | .next _ => true
  | _ => false

theorem exists_of_goesOn {r : Result} (h : goesOn r = true) : ∃ t, r = .next t := by
  cases r with
  | next t => exact ⟨t, rfl⟩
  | fault f => cases h
  | refused f => cases h

/-- The fault of a result. -/
def faultOf : Result → Option Fault
  | .fault f => some f
  | _ => none

/-! ### WellFormed: one ill-formed instruction for each check -/

theorem test_wf_condition_a0_only_on_c64x :
    wf .c67x (.mvk ⟨.ifNonzero .a0, .a, false, 1, 5⟩) = false ∧ wf .c64x (.mvk ⟨.ifNonzero .a0, .a, false, 1, 5⟩) = true := by
  decide
theorem test_wf_constant_of_cmpgtu_has_four_bits :
    wf .c62x (.cmpgtuCst ⟨.always, .a, false, 1, 2, 16, false⟩) = false ∧
      wf .c62x (.cmpgtuCst ⟨.always, .a, false, 1, 2, 15, false⟩) = true := by decide
theorem test_wf_lddw_not_on_c62x :
    wf .c62x (.lddw ⟨.always, .a, false, .a, 4, 5, ⟨.none, .cst 0, true⟩⟩) = false ∧
      wf .c67x (.lddw ⟨.always, .a, false, .a, 4, 5, ⟨.none, .cst 0, true⟩⟩) = true := by decide
theorem test_wf_lddw_to_even_register :
    wf .c67x (.lddw ⟨.always, .a, false, .a, 3, 5, ⟨.none, .cst 0, true⟩⟩) = false := by decide
theorem test_wf_sixteen_registers_off_c64x :
    wf .c62x (.addLReg ⟨.always, .a, false, 3, 16, 1, false⟩) = false ∧
      wf .c64x (.addLReg ⟨.always, .a, false, 3, 16, 1, false⟩) = true := by decide
theorem test_wf_long_in_even_pair :
    wf .c62x (.absLong ⟨.always, .a, false, 4, 3⟩) = false ∧ wf .c62x (.absLong ⟨.always, .a, false, 4, 2⟩) = true := by decide
theorem test_wf_control_register_direction :
    wf .c67x (.mvcRead ⟨.always, false, 1, 3⟩) = false ∧ wf .c67x (.mvcWrite ⟨.always, false, 3, 1, false⟩) = true ∧
      wf .c62x (.mvcRead ⟨.always, false, 1, 18⟩) = false := by decide

/-! ### Decoding: words written out by the encoding column of spec/opcode_table.json -/

/-- Every word of a list decodes to the instruction beside it, and is its encoding. -/
def decodesTo (l : List (Word × Instr)) : Bool :=
  l.all fun p => decide (decode p.1 = .ok p.2) && decide (decodeTableWord 32 p.1.toNat = some p.2) && encode p.2 == p.1

theorem test_decode_format_l_1 : decodesTo [
   (0x01ACC058, .addLCst ⟨.always, .a, false, 3, 11, 6, false⟩),
   (0x2542207A, .addLReg ⟨(.ifNonzero .b0), .b, false, 10, 16, 17, false⟩),
   (0x38D780D9, .subLCst ⟨(.ifZero .b0), .a, true, 17, 21, 28, false⟩),
   (0x4C68E0FB, .subLReg ⟨(.ifNonzero .b1), .b, true, 24, 26, 7, false⟩),
   (0x5FFE51D8, .ssubCst ⟨(.ifZero .b1), .a, false, 31, 31, 18, true⟩),
   (0x6313B1FA, .ssubReg ⟨(.ifNonzero .b2), .b, false, 6, 4, 29, true⟩),
   (0x76A51259, .saddCst ⟨(.ifZero .b2), .a, true, 13, 9, 8, true⟩),
   (0x8A3A727B, .saddReg ⟨(.ifNonzero .a1), .b, true, 20, 14, 19, true⟩),
   (0x9DCFC2F8, .subLRegX1 ⟨(.ifZero .a1), .a, false, 27, 19, 30, false⟩),
   (0xA160035A, .absWord ⟨(.ifNonzero .a2), .b, false, 2, 24, false⟩),
   (0xB4F683F9, .ssubRegX1 ⟨(.ifZero .a2), .a, true, 9, 29, 20, false⟩),
   (0xC80BE41B, .addLCstLong ⟨(.ifNonzero .a0), .b, true, 16, 2, 31⟩),
   (0xDB9D5438, .addLRegLong ⟨(.ifZero .a0), .a, false, 23, 7, 10, true⟩),
   (0x0F32B47A, .addLWide ⟨.always, .b, false, 30, 12, 21, true⟩),
   (0x22C40499, .subLCstLong ⟨(.ifNonzero .b0), .a, true, 5, 17, 0⟩),
   (0x365974FB, .subLWide ⟨(.ifZero .b0), .b, true, 12, 22, 11, true⟩),
   (0x49EEC538, .adduRegLong ⟨(.ifNonzero .b1), .a, false, 19, 27, 22, false⟩),
   (0x5D00257A, .adduWide ⟨(.ifZero .b1), .b, false, 26, 0, 1, false⟩),
   (0x60958599, .ssubCstLong ⟨(.ifNonzero .b2), .a, true, 1, 5, 12⟩),
   (0x742AE5FB, .subuWide ⟨(.ifZero .b2), .b, true, 8, 10, 23, false⟩),
   (0x87BC4618, .saddCstLong ⟨(.ifNonzero .a1), .a, false, 15, 15, 2⟩),
   (0x9B51B63A, .saddRegLong ⟨(.ifZero .a1), .b, false, 22, 20, 13, true⟩),
   (0xAEE716F9, .subLWideX1 ⟨(.ifNonzero .a2), .a, true, 29, 25, 24, true⟩),
   (0xB278071B, .absLong ⟨(.ifZero .a2), .b, true, 4, 30⟩),
   (0xC58DC7F8, .subuWideX1 ⟨(.ifNonzero .a0), .a, false, 11, 3, 14, false⟩),
   (0xD920081A, .sat ⟨(.ifZero .a0), .b, false, 18, 8⟩),
   (0x0CB48899, .cmpgtCstLong ⟨.always, .a, true, 25, 13, 4⟩),
   (0x2049E8BB, .cmpgtRegLong ⟨(.ifNonzero .b0), .b, true, 0, 18, 15, false⟩)] = true := by decide +kernel

theorem test_decode_format_l_2 : decodesTo [
   (0x33DF58D8, .cmpgtCst ⟨(.ifZero .b0), .a, false, 7, 23, 26, true⟩),
   (0x4770B8FA, .cmpgtReg ⟨(.ifNonzero .b1), .b, false, 14, 28, 5, true⟩),
   (0x5A861979, .subc ⟨(.ifZero .b1), .a, true, 21, 1, 16, true⟩),
   (0x6E1B699B, .cmpgtuCstLong ⟨(.ifNonzero .b2), .b, true, 28, 6, 27⟩),
   (0x71ACC9B8, .cmpgtuRegLong ⟨(.ifZero .b2), .a, false, 3, 11, 6, false⟩),
   (0x854229DA, .cmpgtuCst ⟨(.ifNonzero .a1), .b, false, 10, 16, 17, false⟩),
   (0x98D789F9, .cmpgtuReg ⟨(.ifZero .a1), .a, true, 17, 21, 28, false⟩),
   (0xAC68EA1B, .cmpeqCstLong ⟨(.ifNonzero .a2), .b, true, 24, 26, 7⟩),
   (0xBFFE5A38, .cmpeqRegLong ⟨(.ifZero .a2), .a, false, 31, 31, 18, true⟩),
   (0xC313BA5A, .cmpeqCst ⟨(.ifNonzero .a0), .b, false, 6, 4, 29, true⟩),
   (0xD6A51A79, .cmpeqReg ⟨(.ifZero .a0), .a, true, 13, 9, 8, true⟩),
   (0x0A3A6A9B, .cmpltCstLong ⟨.always, .b, true, 20, 14, 19⟩),
   (0x2DCFCAB8, .cmpltRegLong ⟨(.ifNonzero .b0), .a, false, 27, 19, 30, false⟩),
   (0x31612ADA, .cmpltCst ⟨(.ifZero .b0), .b, false, 2, 24, 9, false⟩),
   (0x44F68AF9, .cmpltReg ⟨(.ifNonzero .b1), .a, true, 9, 29, 20, false⟩),
   (0x580BEB9B, .cmpltuCstLong ⟨(.ifZero .b1), .b, true, 16, 2, 31⟩),
   (0x6B9D5BB8, .cmpltuRegLong ⟨(.ifNonzero .b2), .a, false, 23, 7, 10, true⟩),
   (0x7F32BBDA, .cmpltuCst ⟨(.ifZero .b2), .b, false, 30, 12, 21, true⟩),
   (0x82C41BF9, .cmpltuReg ⟨(.ifNonzero .a1), .a, true, 5, 17, 0, true⟩),
   (0x96580C1B, .normLong ⟨(.ifZero .a1), .b, true, 12, 22⟩),
   (0xA9EC0C78, .normWord ⟨(.ifNonzero .a2), .a, false, 19, 27, false⟩),
   (0xBD002D5A, .lmbdCst ⟨(.ifZero .a2), .b, false, 26, 0, 1, false⟩),
   (0xC0958D79, .lmbdReg ⟨(.ifNonzero .a0), .a, true, 1, 5, 12, false⟩),
   (0xD42AEDDB, .xorLCst ⟨(.ifZero .a0), .b, true, 8, 10, 23, false⟩),
   (0x07BC5DF8, .xorLReg ⟨.always, .a, false, 15, 15, 2, true⟩),
   (0x2B51BF5A, .andLCst ⟨(.ifNonzero .b0), .b, false, 22, 20, 13, true⟩),
   (0x3EE71F79, .andLReg ⟨(.ifZero .b0), .a, true, 29, 25, 24, true⟩),
   (0x42787FDB, .orLCst ⟨(.ifNonzero .b1), .b, true, 4, 30, 3, true⟩),
   (0x558DCFF8, .orLReg ⟨(.ifZero .b1), .a, false, 11, 3, 14, false⟩)] = true := by decide +kernel

theorem test_decode_format_s_1 : decodesTo [
   (0x69232062, .add2 ⟨(.ifNonzero .b2), .b, false, 18, 8, 25, false⟩),
   (0x7CB481A1, .addSCst ⟨(.ifZero .b2), .a, true, 25, 13, 4, false⟩),
   (0x8049E1E3, .addSReg ⟨(.ifNonzero .a1), .b, true, 0, 18, 15, false⟩),
   (0x93DF52A0, .xorSCst ⟨(.ifZero .a1), .a, false, 7, 23, 26, true⟩),
   (0xA770B2E2, .xorSReg ⟨(.ifNonzero .a2), .b, false, 14, 28, 5, true⟩),
   (0xBA861461, .sub2 ⟨(.ifZero .a2), .a, true, 21, 1, 16, true⟩),
   (0xCE1B74A3, .shlCstWide ⟨(.ifNonzero .a0), .b, true, 28, 6, 27, true⟩),
   (0xD1ACC4E0, .shlRegWide ⟨(.ifZero .a0), .a, false, 3, 11, 6, false⟩),
   (0x054225A2, .subSCst ⟨.always, .b, false, 10, 16, 17, false⟩),
   (0x28D785E1, .subSReg ⟨(.ifNonzero .b0), .a, true, 17, 21, 28, false⟩),
   (0x3C68E6A3, .orSCst ⟨(.ifZero .b0), .b, true, 24, 26, 7, false⟩),
   (0x4FFE56E0, .orSReg ⟨(.ifNonzero .b1), .a, false, 31, 31, 18, true⟩),
   (0x5313B7A2, .andSCst ⟨(.ifZero .b1), .b, false, 6, 4, 29, true⟩),
   (0x66A517E1, .andSReg ⟨(.ifNonzero .b2), .a, true, 13, 9, 8, true⟩),
   (0x7A3A78A3, .sshlCst ⟨(.ifZero .b2), .b, true, 20, 14, 19, true⟩),
   (0x8DCFC8E0, .sshlReg ⟨(.ifNonzero .a1), .a, false, 27, 19, 30, false⟩),
   (0x91612922, .shruCstLong ⟨(.ifZero .a1), .b, false, 2, 24, 9⟩),
   (0xA4F68961, .shruRegLong ⟨(.ifNonzero .a2), .a, true, 9, 29, 20⟩)] = true := by decide +kernel

theorem test_decode_format_s_2 : decodesTo [
   (0xB80BE9A3, .shruCst ⟨(.ifZero .a2), .b, true, 16, 2, 31, false⟩),
   (0xCB9D59E0, .shruReg ⟨(.ifNonzero .a0), .a, false, 23, 7, 10, true⟩),
   (0xDF32BAE2, .extuReg ⟨(.ifZero .a0), .b, false, 30, 12, 21, true⟩),
   (0x02C41BE1, .extReg ⟨.always, .a, true, 5, 17, 0, true⟩),
   (0x26596C23, .shlCstLong ⟨(.ifNonzero .b0), .b, true, 12, 22, 11⟩),
   (0x39EECC60, .shlRegLong ⟨(.ifZero .b0), .a, false, 19, 27, 22⟩),
   (0x4D002CA2, .shlCst ⟨(.ifNonzero .b1), .b, false, 26, 0, 1, false⟩),
   (0x50958CE1, .shlReg ⟨(.ifZero .b1), .a, true, 1, 5, 12, false⟩),
   (0x642AED23, .shrCstLong ⟨(.ifNonzero .b2), .b, true, 8, 10, 23⟩),
   (0x77BC4D60, .shrRegLong ⟨(.ifZero .b2), .a, false, 15, 15, 2⟩),
   (0x8B51BDA2, .shrCst ⟨(.ifNonzero .a1), .b, false, 22, 20, 13, true⟩),
   (0x9EE71DE1, .shrReg ⟨(.ifZero .a1), .a, true, 29, 25, 24, true⟩),
   (0xA2787EE3, .setReg ⟨(.ifNonzero .a2), .b, true, 4, 30, 3, true⟩),
   (0xB58DCFE0, .clrReg ⟨(.ifZero .a2), .a, false, 11, 3, 14, false⟩),
   (0xC0200362, .bReg ⟨(.ifNonzero .a0), false, 8, false⟩),
   (0xD01800E3, .bIrp ⟨(.ifZero .a0), true⟩),
   (0x001C00E3, .bNrp ⟨.always, true⟩),
   (0x239403E2, .mvcRead ⟨(.ifNonzero .b0), false, 7, 5⟩),
   (0x33F013A2, .mvcWrite ⟨(.ifZero .b0), false, 7, 28, true⟩)] = true := by decide +kernel

theorem test_decode_format_m : decodesTo [
   (0x4A861081, .mpyh ⟨(.ifNonzero .b1), .a, true, 21, 1, 16, true⟩),
   (0x5E1B7103, .smpyh ⟨(.ifZero .b1), .b, true, 28, 6, 27, true⟩),
   (0x61ACC180, .mpyhsu ⟨(.ifNonzero .b2), .a, false, 3, 11, 6, false⟩),
   (0x75422282, .mpyhus ⟨(.ifZero .b2), .b, false, 10, 16, 17, false⟩),
   (0x88D78381, .mpyhu ⟨(.ifNonzero .a1), .a, true, 17, 21, 28, false⟩),
   (0x9C68E483, .mpyhl ⟨(.ifZero .a1), .b, true, 24, 26, 7, false⟩),
   (0xAFFE5500, .smpyhl ⟨(.ifNonzero .a2), .a, false, 31, 31, 18, true⟩),
   (0xB313B582, .mpyhslu ⟨(.ifZero .a2), .b, false, 6, 4, 29, true⟩),
   (0xC6A51681, .mpyhuls ⟨(.ifNonzero .a0), .a, true, 13, 9, 8, true⟩),
   (0xDA3A7783, .mpyhlu ⟨(.ifZero .a0), .b, true, 20, 14, 19, true⟩),
   (0x0DCFC880, .mpylh ⟨.always, .a, false, 27, 19, 30, false⟩),
   (0x21612902, .smpylh ⟨(.ifNonzero .b0), .b, false, 2, 24, 9, false⟩),
   (0x34F68981, .mpylshu ⟨(.ifZero .b0), .a, true, 9, 29, 20, false⟩),
   (0x480BEA83, .mpyluhs ⟨(.ifNonzero .b1), .b, true, 16, 2, 31, false⟩),
   (0x5B9D5B80, .mpylhu ⟨(.ifZero .b1), .a, false, 23, 7, 10, true⟩),
   (0x6F32BC02, .mpyCst ⟨(.ifNonzero .b2), .b, false, 30, 12, 21, true⟩),
   (0x72C41C81, .mpyReg ⟨(.ifZero .b2), .a, true, 5, 17, 0, true⟩),
   (0x86597D03, .smpy ⟨(.ifNonzero .a1), .b, true, 12, 22, 11, true⟩),
   (0x99EECD80, .mpysuReg ⟨(.ifZero .a1), .a, false, 19, 27, 22, false⟩),
   (0xAD002E82, .mpyus ⟨(.ifNonzero .a2), .b, false, 26, 0, 1, false⟩),
   (0xB0958F01, .mpysuCst ⟨(.ifZero .a2), .a, true, 1, 5, 12, false⟩),
   (0xC42AEF83, .mpyu ⟨(.ifNonzero .a0), .b, true, 8, 10, 23, false⟩)] = true := by decide +kernel

theorem test_decode_format_d : decodesTo [
   (0xD7BC4840, .addDReg ⟨(.ifZero .a0), .a, false, 15, 15, 2⟩),
   (0x0B51A8C2, .subDReg ⟨.always, .b, false, 22, 20, 13⟩),
   (0x2EE70941, .addDCst ⟨(.ifNonzero .b0), .a, true, 29, 25, 24⟩),
   (0x327869C3, .subDCst ⟨(.ifZero .b0), .b, true, 4, 30, 3⟩),
   (0x458DD840, .addabReg ⟨(.ifNonzero .b1), .a, false, 11, 3, 14⟩),
   (0x592338C2, .subabReg ⟨(.ifZero .b1), .b, false, 18, 8, 25⟩),
   (0x6CB49941, .addabCst ⟨(.ifNonzero .b2), .a, true, 25, 13, 4⟩),
   (0x7049F9C3, .subabCst ⟨(.ifZero .b2), .b, true, 0, 18, 15⟩),
   (0x83DF5A40, .addahReg ⟨(.ifNonzero .a1), .a, false, 7, 23, 26⟩),
   (0x9770BAC2, .subahReg ⟨(.ifZero .a1), .b, false, 14, 28, 5⟩),
   (0xAA861B41, .addahCst ⟨(.ifNonzero .a2), .a, true, 21, 1, 16⟩),
   (0xBE1B7BC3, .subahCst ⟨(.ifZero .a2), .b, true, 28, 6, 27⟩),
   (0xC1ACDC40, .addawReg ⟨(.ifNonzero .a0), .a, false, 3, 11, 6⟩),
   (0xD5423CC2, .subawReg ⟨(.ifZero .a0), .b, false, 10, 16, 17⟩),
   (0x08D79D41, .addawCst ⟨.always, .a, true, 17, 21, 28⟩),
   (0x2C68FDC3, .subawCst ⟨(.ifNonzero .b0), .b, true, 24, 26, 7⟩)] = true := by decide +kernel

theorem test_decode_format_lsr : decodesTo [
   (0x3FFE4004, .ldhu ⟨(.ifZero .b0), .a, false, .a, 31, 31, ⟨.none, .cst 18, false⟩⟩),
   (0x4313A216, .ldbu ⟨(.ifNonzero .b1), .b, false, .a, 6, 4, ⟨.none, .cst 29, true⟩⟩),
   (0x56A50825, .ldb ⟨(.ifZero .b1), .a, true, .a, 13, 9, ⟨.none, .reg 8, false⟩⟩),
   (0x6A3A6A37, .stb ⟨(.ifNonzero .b2), .b, true, .a, 20, 14, ⟨.none, .reg 19, true⟩⟩),
   (0x7DCFD0C4, .ldh ⟨(.ifZero .b2), .a, false, .b, 27, 19, ⟨.pre, .cst 30, false⟩⟩),
   (0x816132D6, .sth ⟨(.ifNonzero .a1), .b, false, .b, 2, 24, ⟨.pre, .cst 9, true⟩⟩),
   (0x94F694E5, .ldw ⟨(.ifZero .a1), .a, true, .b, 9, 29, ⟨.post, .cst 20, false⟩⟩),
   (0xA80BF6F7, .stw ⟨(.ifNonzero .a2), .b, true, .b, 16, 2, ⟨.post, .cst 31, true⟩⟩),
   (0xBB9D59E4, .lddw ⟨(.ifZero .a2), .a, false, .b, 23, 7, ⟨.pre, .reg 10, false⟩⟩)] = true := by decide +kernel

theorem test_decode_format_ls15 : decodesTo [
   (0xCF29B48E, .ldhu15 ⟨(.ifNonzero .a0), .b, false, true, 30, 10676⟩),
   (0xD2AE899D, .ldbu15 ⟨(.ifZero .a0), .a, true, true, 5, 11913⟩),
   (0x06335EAF, .ldb15 ⟨.always, .b, true, true, 12, 13150⟩),
   (0x29B8333C, .stb15 ⟨(.ifNonzero .b0), .a, false, false, 19, 14387⟩),
   (0x3D3D084E, .ldh15 ⟨(.ifZero .b0), .b, false, false, 26, 15624⟩),
   (0x40C1DD5D, .sth15 ⟨(.ifNonzero .b1), .a, true, false, 1, 16861⟩),
   (0x5446B26F, .ldw15 ⟨(.ifZero .b1), .b, true, false, 8, 18098⟩),
   (0x67CB877C, .stw15 ⟨(.ifNonzero .b2), .a, false, false, 15, 19335⟩)] = true := by decide +kernel

theorem test_decode_other_formats : decodesTo [
   (0x7B0B2852, .addk ⟨(.ifZero .b2), .b, false, 22, 5712⟩),
   (0x8EE71D09, .extuCst ⟨(.ifNonzero .a1), .a, true, 29, 25, 24, 29⟩),
   (0x9278644B, .extCst ⟨(.ifZero .a1), .b, true, 4, 30, 3, 4⟩),
   (0xA58DCB88, .setCst ⟨(.ifNonzero .a2), .a, false, 11, 3, 14, 11⟩),
   (0xB92332CA, .clrCst ⟨(.ifZero .a2), .b, false, 18, 8, 25, 18⟩),
   (0xCC96B1A9, .mvk ⟨(.ifNonzero .a0), .a, true, 25, 11619⟩),
   (0xD065CD6B, .mvkh ⟨(.ifZero .a0), .b, true, 0, 52122⟩),
   (0x0AAD1D90, .bDisp ⟨.always, .a, false, 0x155A3B⟩),
   (0x0000A000, .nop ⟨5, false⟩),
   (0x00010001, .nop9 ⟨true⟩),
   (0x0001E003, .idle ⟨true, true⟩)] = true := by decide +kernel

/-- Words that R128 reserves: op values, formats 01100 and 11100, creg 111, z = 1 without creg, LSR mode 0010, r = 1 with a store,
NOP with src 9, a unary .L word with src1, x = 1 without a cross-capable operand, MVC with s = 0. -/
theorem test_reserved_words_refused :
    ([0x00000018, 0x00000030, 0x00000070, 0xE0000078, 0x10000078, 0x00000424, 0x00000334, 0x00012000, 0x00002358, 0x00001818,
      0x000003A0] : List Word).all (fun w => (decodeTableWord 32 w.toNat).isNone) = true := by decide +kernel

/-! ### E1 of single instructions: the vectors of spec/95_test_vectors.md -/

/-- One vector: the word, the machine, the registers before, the registers and bytes that change, and whether SAT will be set. -/
structure Case where
  word : Word
  variant : Variant
  endian : Endian
  before : List (Target × Word)
  after : List (Target × Word)
  bytes : List (Nat × Byte)
  sat : Bool

/-- The data memory of the vectors. -/
def dataImage (e : Endian) : Memory :=
  [(0x80000100, 0x11223344), (0x80000104, 0x55667788), (0x80000108, 0x99AABBCC), (0x8000010C, 0xDDEEFF00)].foldl
    (fun m p => memWrite e m p.1 4 p.2) []

/-- E1 and the memory phase of the decoded word; the writes it leaves pending, applied, give the registers of the vector. -/
def Case.passes (c : Case) : Bool :=
  let s := { withRegs (machine c.variant c.endian) c.before with mem := dataImage c.endian }
  let want := withRegs s c.after
  match decode c.word with
  | .error _ => false
  | .ok i =>
    match andThen (exec i s) memPhase with
    | .next t =>
      let u := t.flight.pw.foldl applyWrite t
      u.regs == want.regs && u.ctrl == want.ctrl && t.flight.psat.isEmpty == !c.sat &&
        t.mem == c.bytes.foldl (fun m p => writeByte m p.1 p.2) s.mem && t.flight.pmLoads.isEmpty && t.flight.pmStores.isEmpty
    | _ => false

/-- Vectors L1, L7, L9, L14, L15, L19, L22, L25, L28, L31, L32, L36, L37, L40, L43, L49, L51, L53, L55. -/
theorem test_vectors_l_unit : ([
    ⟨0x01882078, .c62x, .little, [(A 1, 0x7FFFFFFF), (A 2, 0x1)], [(A 3, 0x80000000)], [], false⟩,
    ⟨0x02082578, .c62x, .little, [(A 1, 0xFFFFFFFF), (A 2, 0x1)], [(A 4, 0x0), (A 5, 0x1)], [], false⟩,
    ⟨0x018820F8, .c62x, .little, [(A 1, 0x0), (A 2, 0x1)], [(A 3, 0xFFFFFFFF)], [], false⟩,
    ⟨0x020825F8, .c62x, .little, [(A 1, 0x0), (A 2, 0x1)], [(A 4, 0xFFFFFFFF), (A 5, 0xFF)], [], false⟩,
    ⟨0x01882278, .c62x, .little, [(A 1, 0x80000000), (A 2, 0xFFFFFFFF)], [(A 3, 0x80000000)], [], true⟩,
    ⟨0x018821F8, .c62x, .little, [(A 1, 0x7FFFFFFF), (A 2, 0xFFFFFFFF)], [(A 3, 0x7FFFFFFF)], [], true⟩,
    ⟨0x01840358, .c62x, .little, [(A 1, 0x80000000)], [(A 3, 0x7FFFFFFF)], [], false⟩,
    ⟨0x02080818, .c62x, .little, [(A 2, 0x7FFFFFFF), (A 3, 0xFF)], [(A 4, 0x80000000)], [], true⟩,
    ⟨0x01882A78, .c62x, .little, [(A 1, 0x12345678), (A 2, 0x12345678)], [(A 3, 0x1)], [], false⟩,
    ⟨0x018828F8, .c62x, .little, [(A 1, 0xFFFFFFFF), (A 2, 0x1)], [(A 3, 0x0)], [], false⟩,
    ⟨0x018829F8, .c62x, .little, [(A 1, 0xFFFFFFFF), (A 2, 0x1)], [(A 3, 0x1)], [], false⟩,
    ⟨0x01882AF8, .c62x, .little, [(A 1, 0x80000000), (A 2, 0x7FFFFFFF)], [(A 3, 0x1)], [], false⟩,
    ⟨0x01882BF8, .c62x, .little, [(A 1, 0x80000000), (A 2, 0x7FFFFFFF)], [(A 3, 0x0)], [], false⟩,
    ⟨0x01882D78, .c62x, .little, [(A 1, 0x1), (A 2, 0x0)], [(A 3, 0x20)], [], false⟩,
    ⟨0x01840C78, .c62x, .little, [(A 1, 0x0)], [(A 3, 0x1F)], [], false⟩,
    ⟨0x018BEF58, .c62x, .little, [(A 2, 0xDEADBEEF)], [(A 3, 0xDEADBEEF)], [], false⟩,
    ⟨0x01882FF8, .c62x, .little, [(A 1, 0x8A3A49F), (A 2, 0xFF375A)], [(A 3, 0x8FFB7DF)], [], false⟩,
    ⟨0x01842DF8, .c62x, .little, [(A 1, 0x721325A)], [(A 3, 0x0)], [], false⟩,
    ⟨0x01882978, .c62x, .little, [(A 1, 0x80000001), (A 2, 0x0)], [(A 3, 0x3)], [], false⟩] : List Case).all Case.passes = true := by decide +kernel

/-- Vectors S3, S5, S6, S12, S16, S18, S20, S24, S30, S35, S38, S39, S42, S44, S46, S47. -/
theorem test_vectors_s_unit : ([
    ⟨0x00C00050, .c62x, .little, [(A 1, 0x8000)], [(A 1, 0x0)], [], false⟩,
    ⟨0x01882060, .c62x, .little, [(A 1, 0xFFFFFFFF), (A 2, 0x10001)], [(A 3, 0x0)], [], false⟩,
    ⟨0x01882460, .c62x, .little, [(A 1, 0x0), (A 2, 0x10001)], [(A 3, 0xFFFFFFFF)], [], false⟩,
    ⟨0x01041FC8, .c62x, .little, [(A 1, 0xFFFFFFFF)], [(A 2, 0x0)], [], false⟩,
    ⟨0x01040088, .c62x, .little, [(A 1, 0x0)], [(A 2, 0x1)], [], false⟩,
    ⟨0x01041848, .c62x, .little, [(A 1, 0x80FFFFFF)], [(A 2, 0xFFFFFF80)], [], false⟩,
    ⟨0x01071808, .c62x, .little, [(A 1, 0xFFFFFFFF)], [(A 2, 0xFF)], [], false⟩,
    ⟨0x0107ECA0, .c62x, .little, [(A 1, 0x3)], [(A 2, 0x80000000)], [], false⟩,
    ⟨0x0107EDA0, .c62x, .little, [(A 1, 0x80000000)], [(A 2, 0xFFFFFFFF)], [], false⟩,
    ⟨0x0107E9A0, .c62x, .little, [(A 1, 0x80000000)], [(A 2, 0x1)], [], false⟩,
    ⟨0x0107E8A0, .c62x, .little, [(A 1, 0xFFFFFFFF)], [(A 2, 0x80000000)], [], false⟩,
    ⟨0x0107E8A0, .c62x, .little, [(A 1, 0x1)], [(A 2, 0x7FFFFFFF)], [], true⟩,
    ⟨0x00C00028, .c62x, .little, [], [(A 1, 0xFFFF8000)], [], false⟩,
    ⟨0x00D5E6E8, .c62x, .little, [(A 1, 0xFFFF1234)], [(A 1, 0xABCD1234)], [], false⟩,
    ⟨0x008003E2, .c62x, .little, [(.ctrl .amr, 0xA30005)], [(B 1, 0xA30005)], [], false⟩,
    ⟨0x000403A2, .c62x, .little, [(B 1, 0xFFFFFFFF)], [(.ctrl .amr, 0x3FFFFFF)], [], false⟩] : List Case).all Case.passes = true := by decide +kernel

/-- Vectors M1, M2, M3, M4, M5, M6, M7, M8, M9, M10, M11, M12, M13, M14, M15, M16, M17, M18, M19, M20, M23, M24, M26. -/
theorem test_vectors_m_unit : ([
    ⟨0x01882080, .c62x, .little, [(A 1, 0x8000FFFE), (A 2, 0x7FFF8000)], [(A 3, 0xC0008000)], [], false⟩,
    ⟨0x01882100, .c62x, .little, [(A 1, 0x8000FFFE), (A 2, 0x7FFF8000)], [(A 3, 0x80010000)], [], false⟩,
    ⟨0x01882180, .c62x, .little, [(A 1, 0x8000FFFE), (A 2, 0x7FFF8000)], [(A 3, 0xC0008000)], [], false⟩,
    ⟨0x01882280, .c62x, .little, [(A 1, 0x8000FFFE), (A 2, 0x7FFF8000)], [(A 3, 0x3FFF8000)], [], false⟩,
    ⟨0x01882380, .c62x, .little, [(A 1, 0x8000FFFE), (A 2, 0x7FFF8000)], [(A 3, 0x3FFF8000)], [], false⟩,
    ⟨0x01882480, .c62x, .little, [(A 1, 0x8000FFFE), (A 2, 0x7FFF8000)], [(A 3, 0x40000000)], [], false⟩,
    ⟨0x01882500, .c62x, .little, [(A 1, 0x8000FFFE), (A 2, 0x7FFF8000)], [(A 3, 0x7FFFFFFF)], [], true⟩,
    ⟨0x01882580, .c62x, .little, [(A 1, 0x8000FFFE), (A 2, 0x7FFF8000)], [(A 3, 0xC0000000)], [], false⟩,
    ⟨0x01882680, .c62x, .little, [(A 1, 0x8000FFFE), (A 2, 0x7FFF8000)], [(A 3, 0xC0000000)], [], false⟩,
    ⟨0x01882780, .c62x, .little, [(A 1, 0x8000FFFE), (A 2, 0x7FFF8000)], [(A 3, 0x40000000)], [], false⟩,
    ⟨0x01882880, .c62x, .little, [(A 1, 0x8000FFFE), (A 2, 0x7FFF8000)], [(A 3, 0xFFFF0002)], [], false⟩,
    ⟨0x01882900, .c62x, .little, [(A 1, 0x8000FFFE), (A 2, 0x7FFF8000)], [(A 3, 0xFFFE0004)], [], false⟩,
    ⟨0x01882980, .c62x, .little, [(A 1, 0x8000FFFE), (A 2, 0x7FFF8000)], [(A 3, 0xFFFF0002)], [], false⟩,
    ⟨0x01882A80, .c62x, .little, [(A 1, 0x8000FFFE), (A 2, 0x7FFF8000)], [(A 3, 0x7FFE0002)], [], false⟩,
    ⟨0x01882B80, .c62x, .little, [(A 1, 0x8000FFFE), (A 2, 0x7FFF8000)], [(A 3, 0x7FFE0002)], [], false⟩,
    ⟨0x01882C80, .c62x, .little, [(A 1, 0x8000FFFE), (A 2, 0x7FFF8000)], [(A 3, 0x10000)], [], false⟩,
    ⟨0x01882D00, .c62x, .little, [(A 1, 0x8000FFFE), (A 2, 0x7FFF8000)], [(A 3, 0x20000)], [], false⟩,
    ⟨0x01882D80, .c62x, .little, [(A 1, 0x8000FFFE), (A 2, 0x7FFF8000)], [(A 3, 0xFFFF0000)], [], false⟩,
    ⟨0x01882E80, .c62x, .little, [(A 1, 0x8000FFFE), (A 2, 0x7FFF8000)], [(A 3, 0x80010000)], [], false⟩,
    ⟨0x01882F80, .c62x, .little, [(A 1, 0x8000FFFE), (A 2, 0x7FFF8000)], [(A 3, 0x7FFF0000)], [], false⟩,
    ⟨0x01882D00, .c62x, .little, [(A 1, 0x8000), (A 2, 0x8000)], [(A 3, 0x7FFFFFFF)], [], true⟩,
    ⟨0x01882100, .c62x, .little, [(A 1, 0x80000000), (A 2, 0x80000000)], [(A 3, 0x7FFFFFFF)], [], true⟩,
    ⟨0x01882900, .c62x, .little, [(A 1, 0x8000), (A 2, 0x80000000)], [(A 3, 0x7FFFFFFF)], [], true⟩] : List Case).all Case.passes = true := by decide +kernel

/-- Vectors D5, D6, D7, D9. -/
theorem test_vectors_d_unit : ([
    ⟨0x01903840, .c62x, .little, [(A 4, 0x1000), (A 1, 0x3)], [(A 3, 0x1003)], [], false⟩,
    ⟨0x01903A40, .c62x, .little, [(A 4, 0x1000), (A 1, 0x3)], [(A 3, 0x1006)], [], false⟩,
    ⟨0x01903C40, .c62x, .little, [(A 4, 0x1000), (A 1, 0x3)], [(A 3, 0x100C)], [], false⟩,
    ⟨0x01905DC0, .c62x, .little, [(A 4, 0x1000)], [(A 3, 0xFF8)], [], false⟩] : List Case).all Case.passes = true := by decide +kernel

/-- Vectors LS1, LS2, LS14, LS16, LS17, LS18, LS24, LS26, LS27, LS33, LS34. -/
theorem test_vectors_load_store : ([
    ⟨0x03942064, .c62x, .little, [(A 5, 0x80000104)], [(A 7, 0x11223344)], [], false⟩,
    ⟨0x03942264, .c62x, .little, [(A 5, 0x80000104)], [(A 7, 0x99AABBCC)], [], false⟩,
    ⟨0x03946224, .c62x, .little, [(A 5, 0x80000108)], [(A 7, 0xFFFFFF99)], [], false⟩,
    ⟨0x03946214, .c62x, .little, [(A 5, 0x80000108)], [(A 7, 0x99)], [], false⟩,
    ⟨0x03942244, .c62x, .little, [(A 5, 0x80000108)], [(A 7, 0xFFFF99AA)], [], false⟩,
    ⟨0x03942204, .c62x, .little, [(A 5, 0x80000108)], [(A 7, 0x99AA)], [], false⟩,
    ⟨0x03942274, .c62x, .little, [(A 5, 0x80000100), (A 7, 0xCAFEBABE)], [], [(0x80000104, 0xBE), (0x80000105, 0xBA), (0x80000106, 0xFE), (0x80000107, 0xCA)], false⟩,
    ⟨0x03942254, .c62x, .little, [(A 5, 0x80000100), (A 7, 0xCAFEBABE)], [], [(0x80000102, 0xBE), (0x80000103, 0xBA)], false⟩,
    ⟨0x03943634, .c62x, .little, [(A 5, 0x80000100), (A 7, 0xCAFEBABE)], [(A 5, 0x80000101)], [(0x80000100, 0xBE)], false⟩,
    ⟨0x03142364, .c67x, .little, [(A 5, 0x80000100)], [(A 6, 0x99AABBCC), (A 7, 0xDDEEFF00)], [], false⟩,
    ⟨0x83943264, .c62x, .little, [(A 1, 0x0), (A 5, 0x80000104)], [], [], false⟩] : List Case).all Case.passes = true := by decide +kernel

/-- Vectors L59, L60, S14, S41, S54, D15, LS19: what faults in E1. -/
theorem test_vectors_faults :
    ([
    (0x08082078, .c62x, [(A 1, 0x1), (A 2, 0x2)], .noSuchRegister),
    (0x02882438, .c62x, [(A 1, 0x1), (A 2, 0x2), (A 3, 0x0)], .oddRegisterForPair),
    (0x0104A4C8, .c62x, [(A 1, 0xFFFFFFFF)], .fieldBounds),
    (0x010468E0, .c62x, [(A 1, 0x0), (A 3, 0x20)], .sshlAmount),
    (0x008C03E2, .c62x, [], .illegalControlRegister),
    (0x01903840, .c62x, [(A 4, 0x100F), (A 1, 0x1), (.ctrl .amr, 0x3)], .reservedAmrMode),
    (0x03940244, .c62x, [(A 5, 0x80000101)], .misalignedAccess)] : List (Word × Variant × List (Target × Word) × Fault)).all (fun c =>
      match decode c.1 with
      | .error _ => false
      | .ok i => faultOf (exec i (withRegs (machine c.2.1 .little) c.2.2.1)) == some c.2.2.2) = true := by decide +kernel
/-! ### Witnesses: for each statement with hypotheses, a state and operands that meet them -/

/-- The well-formed instructions of a list whose condition holds. -/
def readyIn (s : State) (l : List Instr) : Bool := l.all fun i => wf s.params.variant i && condHolds s i.demand.cond

theorem ready_of_readyIn {s : State} {l : List Instr} (h : readyIn s l = true) : ∀ i ∈ l, ready s i := by
  intro i hi
  have := List.all_eq_true.1 h i hi
  simpa [ready] using this

/-- A machine with B0 = 1, for conditions, and base registers in data memory. -/
def w64 : State := withRegs (machine .c64x .little) [(B 0, 1), (A 4, 0x80000100), (B 15, 0x80000100), (B 14, 0x80000101)]

def xf : XForm := ⟨.ifNonzero .b0, .a, false, 6, 4, 2, true⟩
def xc : XCstForm := ⟨.ifNonzero .b0, .a, false, 6, 4, 31, true⟩
def cf : CForm := ⟨.ifNonzero .b0, .a, false, 6, 4, 31⟩
def rf : RForm := ⟨.ifNonzero .b0, .a, false, 6, 4, 2⟩
def xu : XUnForm := ⟨.ifNonzero .b0, .a, false, 6, 4, true⟩
def uf : UnForm := ⟨.ifNonzero .b0, .a, false, 6, 4⟩
def kf : Cst16Form := ⟨.ifNonzero .b0, .a, false, 6, 0x8000⟩
def ff (a b : BitVec 5) : FieldForm := ⟨.ifNonzero .b0, .a, false, 6, 4, a, b⟩
def mf (u : Update) (c : BitVec 5) : MemForm := ⟨.ifNonzero .b0, .a, false, .a, 6, 4, ⟨u, .cst c, true⟩⟩
def lf (y : Bool) : Mem15Form := ⟨.ifNonzero .b0, .a, false, y, 6, 3⟩

theorem witness_EncodeInvertsDecode : decode 0x01882078 = .ok (.addLReg ⟨.always, .a, false, 3, 2, 1, false⟩) := by decide
theorem witness_DecoderFollowsOpcodeTable :
    let i := Instr.lddw (mf .none 0)
    let w : Word := 0x031002E6 ||| 0x100
    w &&& i.tableRow.1 = i.tableRow.2 ∧ field w 28 4 ≠ 1 ∧ (field w 28 4).toNat < 14 ∧ field w 2 2 = 1 ∧
      field w 9 4 ≠ 2 ∧ field w 9 4 ≠ 3 ∧ field w 9 4 ≠ 6 ∧ field w 9 4 ≠ 7 := by decide
theorem witness_ReservedWordsAreRefused :
    (decodeTableWord 32 0x031003E6).isSome = true ∧ field 0x031003E6 2 2 = 1 ∧ flag 0x031003E6 8 = true ∧
      field 0x031003E6 2 11 ≠ 0 ∧ (decodeTableWord 32 0x00010000).isSome = true ∧ field 0x00010000 2 11 = 0 ∧
      (decodeTableWord 32 0x0001E000).isSome = true := by decide
theorem witness_IllegalInstructionFaults :
    condExists .c62x (.mvk ⟨.ifZero .a0, .a, false, 1, 5⟩) = false ∧
    regsExist .c62x (.addLReg ⟨.always, .a, false, 3, 16, 1, false⟩) = false ∧
    pairsEven (.absLong ⟨.always, .a, false, 4, 3⟩) = false ∧ regsExist .c62x (.absLong ⟨.always, .a, false, 4, 3⟩) = true ∧
    ctrlLegal .c62x (.mvcRead ⟨.always, false, 1, 3⟩) = false ∧ pairsEven (.mvcRead ⟨.always, false, 1, 3⟩) = true ∧
    ((cstFits .c62x (.mvcRead ⟨.always, false, 1, 3⟩) && condExists .c62x (.mvcRead ⟨.always, false, 1, 3⟩)) &&
      (dwordExists .c62x (.mvcRead ⟨.always, false, 1, 3⟩) && dwordEven (.mvcRead ⟨.always, false, 1, 3⟩))) = true := by decide
theorem witness_FalseConditionHasNoEffect :
    wf .c64x (.addLReg { xf with cond := .ifNonzero .b1 }) = true ∧ w64.gpr .b 1 = 0 ∧
      wf .c64x (.addLReg { xf with cond := .ifZero .b0 }) = true ∧ w64.gpr .b 0 ≠ 0 := by decide +kernel
theorem witness_InstructionOnlyAddsItsEffects : ∃ u, exec (.stw (mf .post 1)) w64 = .next u :=
  exists_of_goesOn (by decide +kernel)
theorem witness_PacketReadsStartOfCycle : ∃ t, execAll [.addLReg xf, .mvk { kf with dst := 7 }] w64 = .next t :=
  exists_of_goesOn (by decide +kernel)

/-- The machine after reset with ADD .L1 A1,A2,A3 at pc. -/
def atAdd : State := State.reset.withFetchWord 32 0x01882078

theorem witness_PacketStepFrame : atAdd.settled ∧ atAdd.undisturbed ∧ atAdd.input.requests = 0 ∧
    fetch atAdd = .ok [.addLReg ⟨.always, .a, false, 3, 2, 1, false⟩] ∧ ∃ t, step atAdd = .next t := by
  refine ⟨?_, ?_, by decide +kernel, by decide +kernel, exists_of_goesOn (by decide +kernel)⟩
  · unfold State.settled; decide +kernel
  · unfold State.undisturbed; decide +kernel

theorem witness_AdditionResults : ∀ i ∈ [.addLCst xc, .addLReg xf, .addLCstLong cf, .addLRegLong xf, .addLWide xf,
    .addSCst xc, .addSReg xf, .adduRegLong xf, .adduWide xf, .addk kf, .addDReg rf, .addDCst cf, .add2 xf], ready w64 i :=
  ready_of_readyIn (by decide +kernel)
theorem witness_SubtractionResults : ∀ i ∈ [.subLCst xc, .subLReg xf, .subLRegX1 xf, .subLCstLong cf, .subLWide xf,
    .subLWideX1 xf, .subSCst xc, .subSReg xf, .subuWide xf, .subuWideX1 xf, .subDReg rf, .subDCst cf, .sub2 xf, .subc xf],
    ready w64 i := ready_of_readyIn (by decide +kernel)
theorem witness_SaturatingResults : (∀ i ∈ [.saddCst xc, .saddReg xf, .saddCstLong cf, .saddRegLong xf, .ssubCst xc,
    .ssubReg xf, .ssubRegX1 xf, .ssubCstLong cf, .sat uf, .sshlCst xc, .sshlReg xf, .absWord xu, .absLong uf], ready w64 i) ∧
    (own1 (withRegs w64 [(A 2, 31)]) xf).toNat = 31 ∧ (own1 (withRegs w64 [(A 2, 32)]) xf).toNat = 32 ∧
    readyIn (withRegs w64 [(A 2, 31)]) [.sshlReg xf] = true ∧ readyIn (withRegs w64 [(A 2, 32)]) [.sshlReg xf] = true :=
  ⟨ready_of_readyIn (by decide +kernel), by decide +kernel, by decide +kernel, by decide +kernel, by decide +kernel⟩
theorem witness_CompareResults : ∀ i ∈ [.cmpgtCst xc, .cmpgtReg xf, .cmpgtCstLong cf, .cmpgtRegLong xf, .cmpltCst xc,
    .cmpltReg xf, .cmpltCstLong cf, .cmpltRegLong xf, .cmpeqCst xc, .cmpeqReg xf, .cmpeqCstLong cf, .cmpeqRegLong xf,
    .cmpgtuCst xc, .cmpgtuReg xf, .cmpgtuCstLong cf, .cmpgtuRegLong xf, .cmpltuCst xc, .cmpltuReg xf, .cmpltuCstLong cf,
    .cmpltuRegLong xf], ready w64 i := ready_of_readyIn (by decide +kernel)
theorem witness_BitCountResults : ∀ i ∈ [.lmbdCst xc, .lmbdReg xf, .normWord xu, .normLong uf], ready w64 i :=
  ready_of_readyIn (by decide +kernel)
theorem witness_LogicAndMoveResults : ∀ i ∈ [.andLCst xc, .andLReg xf, .orLCst xc, .orLReg xf, .xorLCst xc, .xorLReg xf,
    .andSCst xc, .andSReg xf, .orSCst xc, .orSReg xf, .xorSCst xc, .xorSReg xf, .mvk kf, .mvkh kf], ready w64 i :=
  ready_of_readyIn (by decide +kernel)
theorem witness_ShiftResults : ∀ i ∈ [.shlCst xc, .shlReg xf, .shlCstLong cf, .shlRegLong rf, .shrCst xc, .shrReg xf,
    .shrCstLong cf, .shrRegLong rf, .shruCst xc, .shruReg xf, .shruCstLong cf, .shruRegLong rf, .shlCstWide xc, .shlRegWide xf],
    ready w64 i := ready_of_readyIn (by decide +kernel)
theorem witness_BitFieldResults :
    (∀ i ∈ [.clrCst (ff 31 31), .setCst (ff 0 0), .extCst (ff 31 0), .extuCst (ff 0 31), .clrCst (ff 1 0), .setCst (ff 31 30),
      .extReg xf, .extuReg xf], ready w64 i) ∧
    readyIn (withRegs w64 [(A 2, 0xA5)]) [.clrReg xf, .setReg xf] = true ∧
    (own1 (withRegs w64 [(A 2, 0xA5)]) xf).toNat / 32 % 32 = 5 ∧ (own1 (withRegs w64 [(A 2, 0xA5)]) xf).toNat % 32 = 5 ∧
    readyIn (withRegs w64 [(A 2, 0xC5)]) [.clrReg xf, .setReg xf] = true ∧
    (own1 (withRegs w64 [(A 2, 0xC5)]) xf).toNat / 32 % 32 = 6 ∧ (own1 (withRegs w64 [(A 2, 0xC5)]) xf).toNat % 32 = 5 :=
  ⟨ready_of_readyIn (by decide +kernel), by decide +kernel, by decide +kernel, by decide +kernel, by decide +kernel,
    by decide +kernel, by decide +kernel⟩
theorem witness_MultiplyResults : ∀ i ∈ [.mpyReg xf, .mpyu xf, .mpyus xf, .mpysuReg xf, .mpyh xf, .mpyhu xf, .mpyhus xf,
    .mpyhsu xf, .mpyhl xf, .mpyhlu xf, .mpyhuls xf, .mpyhslu xf, .mpylh xf, .mpylhu xf, .mpyluhs xf, .mpylshu xf, .mpyCst xc,
    .mpysuCst xc], ready w64 i := ready_of_readyIn (by decide +kernel)
theorem witness_SaturatingMultiplyResults : ∀ i ∈ [.smpy xf, .smpyh xf, .smpyhl xf, .smpylh xf], ready w64 i :=
  ready_of_readyIn (by decide +kernel)

/-- The machine with AMR set. -/
def withAmr (w : Word) : State := withRegs w64 [(.ctrl .amr, w)]

theorem witness_AddressArithmeticResults :
    (∀ i ∈ [.addabReg rf, .addabCst cf, .addahReg rf, .addahCst cf, .addawReg rf, .addawCst cf, .subabReg rf, .subabCst cf,
      .subahReg rf, .subahCst cf, .subawReg rf, .subawCst cf], ready w64 i) ∧
    amrMode w64.ctrl.amr .a 4 = 0 ∧ amrMode (withAmr 1).ctrl.amr .a 4 = 1 ∧ amrMode (withAmr 2).ctrl.amr .a 4 = 2 ∧
    amrMode (withAmr 3).ctrl.amr .a 4 = 3 ∧ readyIn (withAmr 3) [.addabReg rf, .subawCst cf] = true :=
  ⟨ready_of_readyIn (by decide +kernel), by decide +kernel, by decide +kernel, by decide +kernel, by decide +kernel,
    by decide +kernel⟩

/-- Linear, aligned: the pre, post and plain modes at the end of the block; misaligned; circular; mode 11. -/
theorem witness_LoadsComputeAddressAndBase :
    (∀ i ∈ [.ldb (mf .none 1), .ldbu (mf .pre 1), .ldh (mf .post 1), .ldhu (mf .none 1), .ldw (mf .pre 1), .lddw (mf .none 1)],
      ready w64 i) ∧
    isAddress w64.ctrl.amr .a 4 (w64.gpr .a 4) (scaledOffset w64 (mf .pre 1) 4) true 0x80000104 ∧
    (lsrUsed w64 (mf .pre 1) 0x80000104).toNat % 4 = 0 ∧
    (lsrUsed (withRegs w64 [(A 4, 0x80000102)]) (mf .post 1) 0x80000106).toNat % 4 ≠ 0 ∧
    isAddress (withAmr 0x00030001).ctrl.amr .a 4 0x8000010C 4 true 0x80000100 ∧
    amrMode (withAmr 3).ctrl.amr .a 4 = 3 ∧ readyIn (withAmr 3) [.ldw (mf .none 1)] = true := by
  refine ⟨ready_of_readyIn (by decide +kernel), ?_, by decide +kernel, by decide +kernel, ?_, by decide +kernel,
    by decide +kernel⟩ <;> (simp only [isAddress]; decide +kernel)
theorem witness_StoresComputeAddressAndBase :
    (∀ i ∈ [.stb (mf .post 1), .sth (mf .pre 1), .stw (mf .none 1)], ready w64 i) ∧
    isAddress w64.ctrl.amr .a 4 (w64.gpr .a 4) (scaledOffset w64 (mf .none 1) 4) true 0x80000104 ∧
    (lsrUsed w64 (mf .none 1) 0x80000104).toNat % 4 = 0 ∧ amrMode w64.ctrl.amr .a 4 ≠ 3 ∧
    readyIn (withAmr 3) [.stw (mf .none 1)] = true := by
  refine ⟨ready_of_readyIn (by decide +kernel), ?_, by decide +kernel, by decide +kernel, by decide +kernel⟩
  simp only [isAddress]; decide +kernel
theorem witness_LongOffsetAccesses :
    (∀ i ∈ [.ldb15 (lf true), .ldbu15 (lf true), .ldh15 (lf true), .ldhu15 (lf true), .ldw15 (lf true), .stb15 (lf true),
      .sth15 (lf true), .stw15 (lf true), .stw15 (lf false)], ready w64 i) ∧
    (address15 w64 (lf true) 4).toNat % 4 = 0 ∧ (address15 w64 (lf false) 4).toNat % 4 ≠ 0 ∧
    (address15 w64 (lf false) 2).toNat % 2 ≠ 0 :=
  ⟨ready_of_readyIn (by decide +kernel), by decide +kernel, by decide +kernel, by decide +kernel⟩
theorem witness_BranchResults :
    (∀ i ∈ [.bDisp ⟨.ifNonzero .b0, .a, false, 0x1FFFFF⟩, .bReg ⟨.ifNonzero .b0, false, 4, true⟩,
      .bReg ⟨.ifNonzero .b0, false, 14, false⟩, .bIrp ⟨.always, false⟩, .bNrp ⟨.always, false⟩], ready w64 i) ∧
    (w64.gpr .a 4).toNat % 4 = 0 ∧ (w64.gpr .b 14).toNat % 4 ≠ 0 ∧ w64.ctrl.irp.toNat % 4 = 0 ∧ w64.ctrl.nrp.toNat % 4 = 0 ∧
    (withRegs w64 [(.ctrl .irp, 2), (.ctrl .nrp, 1)]).ctrl.irp.toNat % 4 ≠ 0 ∧
    (withRegs w64 [(.ctrl .irp, 2), (.ctrl .nrp, 1)]).ctrl.nrp.toNat % 4 ≠ 0 ∧
    readyIn (withRegs w64 [(.ctrl .irp, 2), (.ctrl .nrp, 1)]) [.bIrp ⟨.always, false⟩, .bNrp ⟨.always, false⟩] = true :=
  ⟨ready_of_readyIn (by decide +kernel), by decide +kernel, by decide +kernel, by decide +kernel, by decide +kernel,
    by decide +kernel, by decide +kernel, by decide +kernel⟩
theorem witness_ControlRegisterReads : ∀ i ∈ ([0, 1, 2, 4, 5, 6, 7, 16, 18, 19, 20] : List (BitVec 5)).map
    (fun n => Instr.mvcRead ⟨.always, false, 1, n⟩), ready (machine .c67x .little) i := ready_of_readyIn (by decide +kernel)
theorem witness_ControlRegisterWrites : ∀ i ∈ ([0, 1, 2, 3, 4, 5, 6, 7, 18, 19, 20] : List (BitVec 5)).map
    (fun n => Instr.mvcWrite ⟨.always, false, n, 1, true⟩), ready (machine .c67x .little) i :=
  ready_of_readyIn (by decide +kernel)
theorem witness_LongLivesInRegisterPair : w64.flight.pw = [] ∧ (30 : RegNum).toNat % 2 = 0 := by decide +kernel

/-- A state with given entries in PW, PB, PM and PSAT. -/
def flying (s : State) (pw : List Write) (pb : List Branch) (ps : List Nat) : State :=
  { s with flight := { s.flight with pw := pw, pb := pb, psat := ps } }

theorem witness_WritesLandOrConflict :
    (∃ t, landWrites (flying w64 [⟨A 1, 5, 0⟩, ⟨.ctrl .amr, 3, 0⟩, ⟨A 1, 6, 1⟩] [] []) = .next t) ∧
    (∃ t, landWrites (flying w64 [⟨.ctrl .amr, 3, 0⟩, ⟨.ctrl .isr, 16, 0⟩] [] []) = .next t) ∧
    faultOf (landWrites (flying w64 [⟨A 1, 5, 0⟩, ⟨A 2, 5, 0⟩, ⟨A 1, 6, 0⟩] [] [])) = some .writeConflict ∧
    (([⟨A 1, 5, 0⟩, ⟨.ctrl .icr, 3, 0⟩] : List Write).map fun w => w.target.named).Nodup :=
  ⟨exists_of_goesOn (by decide +kernel), exists_of_goesOn (by decide +kernel), by decide +kernel, by decide⟩
theorem witness_RequestBeatsClear :
    (∃ t, landPhase (flying w64 [⟨.ctrl .icr, 0x8010, 0⟩] [] [0]) 0x8012 = .next t) ∧
    (∃ t, landPhase (flying w64 [⟨A 1, 5, 0⟩] [] [0]) 0x0008 = .next t) :=
  ⟨exists_of_goesOn (by decide +kernel), exists_of_goesOn (by decide +kernel)⟩

/-- A waiting machine with nothing in flight. -/
def idling : State := { w64 with flight := { Flight.empty with idle := true } }

theorem witness_ResultAndSatTiming : (flying idling [⟨A 1, 5, 1⟩] [] [2]).waiting ∧
    (flying idling [⟨A 1, 5, 1⟩] [] [2]).flight.pb = [] := by
  refine ⟨?_, rfl⟩
  unfold State.waiting; decide +kernel
theorem witness_LoadedValueLandsAfterFourSlots :
    ({ idling with flight := { idling.flight with pmLoads := [⟨0x8000FFFC, .word, false, .a, 1, 0⟩] } } : State).waiting ∧
    idling.accessible 0x8000FFFC .word = true ∧
    ({ idling with flight := { idling.flight with pmLoads := [⟨0x8000FFF8, .dword, false, .a, 6, 0⟩] } } : State).waiting ∧
    idling.accessible 0x8000FFF8 .dword = true := by
  refine ⟨?_, by decide +kernel, ?_, by decide +kernel⟩ <;> (unfold State.waiting; decide +kernel)
theorem witness_LoadedValueFromBytes : (⟨0x80000108, .dword, false, .a, 6, 0⟩ : Load).size = .dword ∧
    (⟨0x80000108, .dword, false, .a, 6, 0⟩ : Load).addr.toNat = 0x80000108 := by decide
theorem witness_MemoryReadsBackWhatWasWritten : (dataImage .big).wf = true ∧ (0xFFFFFFFC : Nat) + 4 ≤ 2 ^ 32 := by
  decide +kernel
theorem witness_StoreReachesMemory : w64.mem.wf = true ∧ aligned .word 0x8000FFFC = true ∧
    w64.accessible 0x8000FFFC .word = true ∧ aligned .byte 0x80010000 = true ∧
    kindAt w64.params.memmap 0x80010000 ≠ some .data := by decide +kernel
theorem witness_LoadsReadBeforeStoresOfPacket : w64.accessible 0x80000100 .word = true ∧
    w64.accessible 0x80000100 .dword = true ∧
    w64.accessible 0x80000102 .half = true ∧ w64.accessible 0x80000104 .half = true ∧
    (0x80000100 : Word).toNat + 4 ≤ (0x80000104 : Word).toNat ∧ (0x80000102 : Word).toNat < (0x80000100 : Word).toNat + 4 := by
  decide +kernel
theorem witness_BranchLands :
    goesOn (branchPhase (flying w64 [] [⟨0x40, 0, .irp⟩, ⟨0x80, 3, .plain⟩] []) 4) = true ∧
    goesOn (branchPhase (flying w64 [] [⟨0x40, 0, .nrp⟩] []) 4) = true ∧
    goesOn (branchPhase (flying w64 [] [⟨0x40, 1, .plain⟩] []) 4) = true ∧
    faultOf (branchPhase (flying w64 [] [⟨0x40, 0, .plain⟩, ⟨0x40, 0, .irp⟩] []) 4) = some .branchConflict := by
  decide +kernel

/-- A machine with GIE, NMIE and IE4, IE15 set, and one environment input. -/
def armed (e : EnvInput) : State :=
  { w64 with ctrl := { w64.ctrl with csr := w64.ctrl.csr ||| 1, ier := 0x8013 }, env := [e] }

theorem witness_InterruptPriorityOrder :
    (armed ⟨true, 0, false⟩).input.reset = true ∧
    readyInterrupt (raiseFlags (armed ⟨false, 0x8012, false⟩).advanceEnv 0x8012) = some 1 ∧
    readyInterrupt (raiseFlags (armed ⟨false, 0x8010, false⟩).advanceEnv 0x8010) = some 4 ∧
    readyInterrupt (raiseFlags (armed ⟨false, 0x8000, false⟩).advanceEnv 0x8000) = some 15 ∧
    readyInterrupt (raiseFlags (armed ⟨false, 0x0020, false⟩).advanceEnv 0x0020) = none := by decide +kernel
theorem witness_ReturnsLandAfterFiveSlots : idling.waiting ∧ idling.flight.drained = true ∧ idling.flight.pb = [] ∧
    (∀ i ∈ [.bIrp ⟨.ifNonzero .b0, false⟩, .bNrp ⟨.ifNonzero .b0, false⟩], ready idling i) ∧
    idling.ctrl.irp.toNat % 4 = 0 ∧ idling.ctrl.nrp.toNat % 4 = 0 := by
  refine ⟨?_, by decide +kernel, by decide +kernel, ready_of_readyIn (by decide +kernel), by decide +kernel, by decide +kernel⟩
  unfold State.waiting; decide +kernel
theorem witness_MaskableInterruptEntry : w64.flight.drained = true ∧ goesOn (takeInterrupt 4 0 w64) = true ∧
    goesOn (takeInterrupt 15 0 w64) = true := by decide +kernel
theorem witness_NonMaskableInterruptEntry : w64.flight.drained = true ∧ goesOn (takeInterrupt 1 0 w64) = true := by
  decide +kernel
/-- A load and a store to memory in flight. -/
def accessing : State :=
  { w64 with flight := { w64.flight with
      pmLoads := [⟨0x8000FFF8, .dword, false, .a, 6, 0⟩]
      pmStores := [⟨0x80000000, .word, 0xCAFEBABE, 1⟩, ⟨0x80000004, .half, 7, 0⟩] } }

theorem witness_InterruptDrainsWhatIsInFlight :
    (∃ t, takeInterrupt 4 0 (flying w64 [⟨A 1, 5, 0⟩, ⟨A 1, 6, 3⟩] [] [2]) = .next t) ∧
    (∃ t, takeInterrupt 1 0 (flying w64 [⟨A 1, 5, 1⟩] [] []) = .next t) ∧
    (∃ t, takeInterrupt 4 0x20 (flying w64 [⟨A 1, 5, 0⟩, ⟨.ctrl .isr, 0x8010, 1⟩] [] []) = .next t) ∧
    (∃ t, takeInterrupt 15 0x10 (flying w64 [⟨.ctrl .icr, 0x8010, 1⟩] [] []) = .next t) ∧
    (∃ t, takeInterrupt 4 0 accessing = .next t) ∧ memoryInv accessing ∧
    (∃ t, takeInterrupt 4 0 { accessing with flight := { accessing.flight with pmStores := [] } } = .next t) := by
  refine ⟨exists_of_goesOn (by decide +kernel), exists_of_goesOn (by decide +kernel), exists_of_goesOn (by decide +kernel),
    exists_of_goesOn (by decide +kernel), exists_of_goesOn (by decide +kernel), ?_, exists_of_goesOn (by decide +kernel)⟩
  unfold memoryInv; decide +kernel
theorem witness_NoBranchPendsWhenInterruptIsTaken : shadowInv (armed ⟨false, 0x10, false⟩) ∧
    readyInterrupt (raiseFlags (armed ⟨false, 0x10, false⟩).advanceEnv 0x10) = some 4 ∧
    ∃ t, step (armed ⟨false, 0x10, false⟩) = .next t := by
  refine ⟨?_, by decide +kernel, exists_of_goesOn (by decide +kernel)⟩
  unfold shadowInv; decide +kernel
theorem witness_ResetEntryValues : (armed ⟨true, 0x10, false⟩).input.reset = true := rfl
theorem witness_StepRunsDecodedInstruction : atAdd.undisturbed ∧ atAdd.flight.idle = false ∧ atAdd.flight.nopcnt = 0 ∧
    atAdd.pc.toNat % 4 = 0 ∧ atAdd.fetchable atAdd.pc.toNat = true ∧ atAdd.crosses (fetchPacket atAdd.pc).toNat = false ∧
    decode (atAdd.wordAt atAdd.pc.toNat) = .ok (.addLReg ⟨.always, .a, false, 3, 2, 1, false⟩) ∧
    flag (atAdd.wordAt atAdd.pc.toNat) 0 = false := by
  refine ⟨?_, ?_⟩
  · unfold State.undisturbed; decide +kernel
  · decide +kernel

/-- The machine after reset with MVK .S1 5,A1 at pc. -/
def atMvk : State := State.reset.withFetchWord 32 0x008002A8

theorem witness_RegisterResultAfterOneStep : atMvk.settled ∧ atMvk.undisturbed ∧ atMvk.input.requests = 0 ∧
    fetch atMvk = .ok [.mvk ⟨.always, .a, false, 1, 5⟩] ∧
    ∀ u : State, u.regs = atMvk.regs → u.ctrl = atMvk.ctrl → u.params = atMvk.params → u.pce1 = fetchPacket atMvk.pc →
      exec (.mvk ⟨.always, .a, false, 1, 5⟩) u = .next (u.putWord .a 1 5 0) := by
  refine ⟨?_, ?_, by decide +kernel, by decide +kernel, ?_⟩
  · unfold State.settled; decide +kernel
  · unfold State.undisturbed; decide +kernel
  · rintro ⟨p, r, c, a, b, m, f, e⟩ _ _ hp _
    cases hp
    rfl
theorem witness_NopAndIdleCycles : idling.undisturbed ∧ idling.flight.drained = true ∧ idling.flight.idle = true ∧
    ({ idling with flight := { Flight.empty with nopcnt := 1 } } : State).undisturbed := by
  refine ⟨?_, by decide +kernel, by decide +kernel, ?_⟩ <;> (unfold State.undisturbed; decide +kernel)

/-- Two words at the end of the fetch packet at 0: ADD with p = 1, then MVK. -/
def atPair : State :=
  { State.reset with
    pc := 24
    mem := memWrite .little (memWrite .little [] 24 4 0x01882079) 28 4 0x008002A8 }

theorem witness_FetchReadsWholePacket :
    fetch atPair = .ok [.addLReg ⟨.always, .a, true, 3, 2, 1, false⟩, .mvk ⟨.always, .a, false, 1, 5⟩] := by decide +kernel
theorem witness_FetchStops :
    faultOf (step { State.reset with pc := 2 }) = some .misalignedBranchTarget ∧
    faultOf (step { State.reset with pc := 0x10000 }) = some .stuckFetch ∧
    faultOf (step { State.reset with mem := memWrite .little [] 28 4 1 }) = some .executePacketCrossesFetchPacket ∧
    faultOf (step (State.reset.withFetchWord 32 0x00000018)) = some .reservedEncoding ∧
    goesOn (step { State.reset with pc := 0xFFFC }) = true := by decide +kernel
/-- One packet for each disjunct of the statement. -/
theorem witness_ResourceConflictsFault :
    [[.addLReg xf, .subLReg xf], [.addLReg xf, .mpyh xf], [.ldw (mf .none 1), .stw15 (lf true)],
     [.addLWide { xf with x := false }, .shlCstWide { xc with x := false }],
     [.absLong uf, .shrCstLong cf], [.absLong uf, .stw (mf .none 1)], [.stw (mf .none 1), .sat uf],
     [.add2 { xf with src1 := 4, x := false }, .mpyh { xf with src1 := 4, x := false }, .addLReg { xf with src1 := 4, x := false }]
    ].all (fun ep => faultOf (runPacket 0 ep w64) == some .resourceConflict) = true := by decide +kernel
/-- `ADD` into A3 on .L1 and .S1 under two conditions: of B0, which holds 1, and of B1, which holds 0. -/
def addL (c : Cond) : Instr := .addLReg ⟨c, .a, false, 3, 2, 1, false⟩
def addS (c : Cond) : Instr := .addSReg ⟨c, .a, false, 3, 2, 1, false⟩

/-- Vector K1, item 6 of R162 with one condition false, with both true, and with conditions that exclude each other. -/
theorem test_shared_write :
    faultOf (runPacket 0 [addL .always, addS .always] w64) = some .writeConflict ∧
    faultOf (runPacket 0 [addL (.ifNonzero .b0), addS (.ifNonzero .b1)] w64) = some .resourceConflict ∧
    faultOf (runPacket 0 [addL (.ifNonzero .b0), addS (.ifZero .b1)] w64) = some .writeConflict ∧
    goesOn (runPacket 0 [addL (.ifNonzero .b0), addS (.ifZero .b0)] w64) = true ∧
    goesOn (runPacket 0 [addL .always, .mpyReg ⟨.always, .a, false, 3, 2, 1, false⟩] w64) = true := by decide +kernel
theorem witness_ResourceConflictsFault_shared : (0, Side.a, (3 : RegNum)) ∈ landings (addL .always).demand ∧
    (0, Side.a, (3 : RegNum)) ∈ landings (addS (.ifNonzero .b1)).demand ∧
    (1, Side.a, (3 : RegNum)) ∈ landings (Instr.mpyh ⟨.always, .a, false, 3, 2, 1, false⟩).demand ∧
    condHolds w64 (.ifNonzero .b1) = false ∧ condHolds w64 (.ifZero .b1) = true := by decide +kernel
theorem witness_OnlyDataMemoryChanges : (∃ t, step atAdd = .next t) ∧ kindAt atAdd.params.memmap 0xFFFF ≠ some .data :=
  ⟨exists_of_goesOn (by decide +kernel), by decide +kernel⟩
theorem witness_OnlyResetOrNmiClearsNmie : (armed ⟨false, 2, false⟩).ctrl.ier.getLsbD 1 = true ∧
    (match step (armed ⟨false, 2, false⟩) with | .next t => t.ctrl.ier.getLsbD 1 | _ => true) = false := by decide +kernel
theorem witness_EveryStepKeeps : memoryInv atAdd ∧ fetchInv atAdd ∧ controlInv atAdd ∧ shadowInv atAdd ∧
    ∃ t, step atAdd = .next t := by
  refine ⟨?_, ?_, ?_, ?_, exists_of_goesOn (by decide +kernel)⟩
  · unfold memoryInv; decide +kernel
  · unfold fetchInv; decide +kernel
  · unfold controlInv; decide +kernel
  · unfold shadowInv; decide +kernel

end Sys2Proof.Tests
end

/-! SUPPORT. What E1 of an instruction and of a packet can do to the state: it adds effects to what is in flight. -/
namespace Sys2Proof.Machine

/-- No effect at all: what E1 adds when its condition is false. -/
def Effects.empty : Effects := ⟨[], [], [], [], [], 0, false⟩

/-- The effects of one instruction and then of another. -/
def Effects.append (e f : Effects) : Effects :=
  ⟨e.writes ++ f.writes, e.branches ++ f.branches, e.loads ++ f.loads, e.stores ++ f.stores, e.sats ++ f.sats,
    max e.nop f.nop, e.idle || f.idle⟩

@[simp] theorem State.withEffects_empty (s : State) : s.withEffects Effects.empty = s := by
  simp [State.withEffects, Effects.empty]

theorem State.withEffects_withEffects (s : State) (e f : Effects) :
    (s.withEffects e).withEffects f = s.withEffects (e.append f) := by
  simp [State.withEffects, Effects.append, max_assoc, Bool.or_assoc]

@[simp] theorem State.withEffects_params (s : State) (e : Effects) : (s.withEffects e).params = s.params := rfl
@[simp] theorem State.withEffects_ctrl (s : State) (e : Effects) : (s.withEffects e).ctrl = s.ctrl := rfl
@[simp] theorem State.withEffects_pc (s : State) (e : Effects) : (s.withEffects e).pc = s.pc := rfl
@[simp] theorem State.withEffects_pce1 (s : State) (e : Effects) : (s.withEffects e).pce1 = s.pce1 := rfl
@[simp] theorem State.withEffects_flight_pb (s : State) (e : Effects) :
    (s.withEffects e).flight.pb = s.flight.pb ++ e.branches := rfl
@[simp] theorem State.withEffects_flight_bshadow (s : State) (e : Effects) :
    (s.withEffects e).flight.bshadow = s.flight.bshadow := rfl

theorem State.enqueue_eq_withEffects (s : State) (ws : List Write) :
    s.enqueue ws = s.withEffects { Effects.empty with writes := ws } := by
  simp [State.enqueue, State.withEffects, Effects.empty]

theorem State.pendSat_eq_withEffects (s : State) (d : Nat) :
    s.pendSat d = s.withEffects { Effects.empty with sats := [d + 1] } := by
  simp [State.pendSat, State.withEffects, Effects.empty]

theorem State.pendBranch_eq_withEffects (s : State) (a : Word) (k : BranchKind) :
    s.pendBranch a k = s.withEffects { Effects.empty with branches := [⟨a, branchDelay, k⟩] } := by
  simp [State.pendBranch, State.withEffects, Effects.empty]

theorem State.pendLoad_eq_withEffects (s : State) (a : Word) (z : Access) (g : Bool) (side : Side) (r : RegNum) :
    s.pendLoad a z g side r = s.withEffects { Effects.empty with loads := [⟨a, z, g, side, r, memLatency⟩] } := by
  simp [State.pendLoad, State.withEffects, Effects.empty]

theorem State.pendStore_eq_withEffects (s : State) (a : Word) (z : Access) (v : Word) :
    s.pendStore a z v = s.withEffects { Effects.empty with stores := [⟨a, z, v, memLatency⟩] } := by
  simp [State.pendStore, State.withEffects, Effects.empty]

theorem State.requestNop_eq_withEffects (s : State) (n : Nat) :
    s.requestNop n = s.withEffects { Effects.empty with nop := n - 1 } := by
  simp [State.requestNop, State.withEffects, Effects.empty]

theorem State.requestIdle_eq_withEffects (s : State) : s.requestIdle = s.withEffects { Effects.empty with idle := true } := by
  simp [State.requestIdle, State.withEffects, Effects.empty]

/-- Where a result goes on, it only adds to what is in flight, and every branch it adds has the property `P`. -/
def Adds (P : Branch → Prop) (s : State) (r : Result) : Prop :=
  ∀ t, r = .next t → ∃ e : Effects, t = s.withEffects e ∧ ∀ b ∈ e.branches, P b

section
variable {P : Branch → Prop} {s : State}

theorem Adds.fault (f : Fault) : Adds P s (.fault f) := by
  intro t h; cases h

theorem Adds.of_withEffects {e : Effects} {u : State} (hu : u = s.withEffects e) (he : ∀ b ∈ e.branches, P b) :
    Adds P s (.next u) := by
  intro t h; cases h; exact ⟨e, hu, he⟩

theorem Adds.self : Adds P s (.next s) := .of_withEffects (e := .empty) (by simp) (by simp [Effects.empty])

/-- Two additions one after the other. -/
theorem Adds.trans {u : State} {r : Result} (hu : Adds P s (.next u)) (hr : Adds P u r) : Adds P s r := by
  intro t ht
  obtain ⟨e, rfl, he⟩ := hu u rfl
  obtain ⟨f, rfl, hf⟩ := hr t ht
  refine ⟨e.append f, State.withEffects_withEffects s e f, fun b hb => ?_⟩
  rcases List.mem_append.1 hb with hb | hb
  exacts [he b hb, hf b hb]

theorem Adds.issue {i : Instr} {body : Result} (h : Adds P s body) : Adds P s (issue i s body) := by
  intro t ht
  obtain ⟨-, ⟨-, rfl⟩ | ⟨-, ht⟩⟩ := issue_eq_next ht
  exacts [Adds.self t rfl, h t ht]

theorem Adds.ite {c : Prop} [Decidable c] {q r : Result} (hq : Adds P s q) (hr : Adds P s r) :
    Adds P s (if c then q else r) := by
  split <;> assumption

theorem Adds.enqueue {ws : List Write} : Adds P s (.next (s.enqueue ws)) :=
  .of_withEffects (s.enqueue_eq_withEffects ws) (by simp [Effects.empty])

theorem Adds.putWord {side : Side} {r : RegNum} {v : Word} {d : Nat} : Adds P s (.next (s.putWord side r v d)) := .enqueue

theorem Adds.putLong {side : Side} {r : RegNum} {v : Long} : Adds P s (.next (s.putLong side r v)) := .enqueue

theorem Adds.putCtrl {c : CtrlDest} {v : Word} {d : Nat} : Adds P s (.next (s.putCtrl c v d)) := .enqueue

theorem Adds.pendSatIf {b : Bool} {d : Nat} : Adds P s (.next (s.pendSatIf b d)) := by
  cases b with
  | false => exact .self
  | true => exact .of_withEffects (s.pendSat_eq_withEffects d) (by simp [Effects.empty])

theorem Adds.putSat {side : Side} {r : RegNum} {x : Int} {d : Nat} : Adds P s (.next (s.putSat side r x d)) :=
  .trans .putWord .pendSatIf

theorem Adds.putSatLong {side : Side} {r : RegNum} {x : Int} : Adds P s (.next (s.putSatLong side r x)) :=
  .trans .putLong .pendSatIf

theorem Adds.requestNop {n : Nat} : Adds P s (.next (s.requestNop n)) :=
  .of_withEffects (s.requestNop_eq_withEffects n) (by simp [Effects.empty])

theorem Adds.requestIdle : Adds P s (.next s.requestIdle) :=
  .of_withEffects s.requestIdle_eq_withEffects (by simp [Effects.empty])

theorem Adds.putBase {y : Side} {r : RegNum} {u : Option Word} : Adds P s (.next (s.putBase y r u)) := by
  cases u with
  | none => exact .self
  | some v => exact .putWord

theorem Adds.pendLoad {a : Word} {z : Access} {g : Bool} {side : Side} {r : RegNum} :
    Adds P s (.next (s.pendLoad a z g side r)) :=
  .of_withEffects (s.pendLoad_eq_withEffects a z g side r) (by simp [Effects.empty])

theorem Adds.pendStore {a : Word} {z : Access} {v : Word} : Adds P s (.next (s.pendStore a z v)) :=
  .of_withEffects (s.pendStore_eq_withEffects a z v) (by simp [Effects.empty])

theorem Adds.putAddress {side : Side} {base dst : RegNum} {a : Word} {z : Access} {add : Bool} :
    Adds P s (s.putAddress side base dst a z add) := by
  intro t h
  obtain ⟨v, -, rfl⟩ := putAddress_eq_next.1 h
  exact Adds.putWord _ rfl

theorem Adds.loadLsr {o : MemForm} {z : Access} {g : Bool} : Adds P s (s.loadLsr o z g) := by
  intro t h
  obtain ⟨a, u, -, -, rfl⟩ := loadLsr_eq_next.1 h
  exact Adds.trans .putBase .pendLoad _ rfl

theorem Adds.storeLsr {o : MemForm} {z : Access} : Adds P s (s.storeLsr o z) := by
  intro t h
  obtain ⟨a, u, -, -, rfl⟩ := storeLsr_eq_next.1 h
  exact Adds.trans .putBase .pendStore _ rfl

theorem Adds.load15 {o : Mem15Form} {z : Access} {g : Bool} : Adds P s (s.load15 o z g) := by
  intro t h
  obtain ⟨-, rfl⟩ := load15_eq_next.1 h
  exact Adds.pendLoad _ rfl

theorem Adds.store15 {o : Mem15Form} {z : Access} : Adds P s (s.store15 o z) := by
  intro t h
  obtain ⟨-, rfl⟩ := store15_eq_next.1 h
  exact Adds.pendStore _ rfl

theorem Adds.pendBranch {a : Word} {k : BranchKind} (h : P ⟨a, branchDelay, k⟩) : Adds P s (.next (s.pendBranch a k)) :=
  .of_withEffects (s.pendBranch_eq_withEffects a k) (by simpa [Effects.empty] using h)

theorem Adds.branchTo {a : Word} {k : BranchKind} (h : a.toNat % 4 = 0 → P ⟨a, branchDelay, k⟩) :
    Adds P s (s.branchTo a k) := by
  intro t ht
  obtain ⟨ha, rfl⟩ := branchTo_eq_next.1 ht
  exact Adds.pendBranch (h ha) _ rfl

end

/-- A branch that E1 of `i` may put in flight (R86, R155 step 4, R214). -/
structure MayBranch (i : Instr) (s : State) (b : Branch) : Prop where
  branches : i.demand.branch = true
  left_eq : b.left = branchDelay
  target_aligned : s.pce1.toNat % 32 = 0 → b.target.toNat % 4 = 0

/-- A displacement in words from an aligned address gives an aligned address (R214). -/
theorem dispTarget_aligned {a : Word} (h : a.toNat % 32 = 0) (n : Int) : (trunc 32 (zext a + n * 4)).toNat % 4 = 0 := by
  simp only [trunc, zext, BitVec.toNat_ofInt]
  omega

/-- What E1 of one instruction can do: it adds effects to what is in flight, with a branch among them only where the
instruction branches. -/
theorem exec_adds (i : Instr) (s : State) : Adds (MayBranch i s) s (exec i s) := by
  cases i with
  | addLCst | addLReg | subLCst | subLReg | subLRegX1 | absWord | cmpgtCstLong | cmpgtRegLong | cmpgtCst | cmpgtReg
  | subc | cmpgtuCstLong | cmpgtuRegLong | cmpgtuCst | cmpgtuReg | cmpeqCstLong | cmpeqRegLong | cmpeqCst | cmpeqReg
  | cmpltCstLong | cmpltRegLong | cmpltCst | cmpltReg | cmpltuCstLong | cmpltuRegLong | cmpltuCst | cmpltuReg
  | normLong | normWord | lmbdCst | lmbdReg | xorLCst | xorLReg | andLCst | andLReg | orLCst | orLReg
  | add2 | addSCst | addSReg | xorSCst | xorSReg | sub2 | subSCst | subSReg | orSCst | orSReg | andSCst | andSReg
  | shruCst | shruReg | extuReg | extReg | shlCst | shlReg | shrCst | shrReg
  | mpyh | mpyhsu | mpyhus | mpyhu | mpyhl | mpyhslu | mpyhuls | mpyhlu | mpylh | mpylshu | mpyluhs | mpylhu
  | mpyCst | mpyReg | mpysuReg | mpyus | mpysuCst | mpyu
  | mvcRead | addk | extuCst | extCst | mvk | mvkh | addDReg | subDReg | addDCst | subDCst => exact .issue .putWord
  | addLCstLong | addLRegLong | addLWide | subLCstLong | subLWide | adduRegLong | adduWide | subuWide | subLWideX1
  | absLong | subuWideX1 | shlCstWide | shlRegWide | shruCstLong | shruRegLong | shlCstLong | shlRegLong
  | shrCstLong | shrRegLong => exact .issue .putLong
  | ssubCst | ssubReg | saddCst | saddReg | ssubRegX1 | sat | sshlCst | smpyh | smpyhl | smpylh | smpy =>
    exact .issue .putSat
  | ssubCstLong | saddCstLong | saddRegLong => exact .issue .putSatLong
  | sshlReg => exact .issue (.ite (.fault _) .putSat)
  | setReg | clrReg | setCst | clrCst => exact .issue (.ite .putWord (.fault _))
  | addabReg | subabReg | addabCst | subabCst | addahReg | subahReg | addahCst | subahCst | addawReg | subawReg
  | addawCst | subawCst => exact .issue .putAddress
  | ldhu | ldbu | ldb | ldh | ldw | lddw => exact .issue .loadLsr
  | ldhu15 | ldbu15 | ldb15 | ldh15 | ldw15 => exact .issue .load15
  | stb | sth | stw => exact .issue .storeLsr
  | stb15 | sth15 | stw15 => exact .issue .store15
  | nop o => exact .issue (i := .nop o) .requestNop
  | nop9 o => exact .issue (i := .nop9 o) .requestNop
  | idle o => exact .issue (i := .idle o) .requestIdle
  | mvcWrite o =>
    refine .issue ?_
    cases ctrlDest o.cr with
    | none => exact .fault _
    | some c => exact .putCtrl
  | bReg | bIrp | bNrp => exact .issue (.branchTo fun h => ⟨rfl, rfl, fun _ => h⟩)
  | bDisp => exact .issue (.pendBranch ⟨rfl, rfl, fun h => dispTarget_aligned h _⟩)

end Sys2Proof.Machine

/-! PROOFS. The two invariants of fetching and branching that every step keeps (O57, O59). -/
namespace Sys2Proof.Machine

/-- E1 of one instruction adds effects to what is in flight. -/
theorem exec_eq_next {i : Instr} {s t : State} (h : exec i s = .next t) :
    ∃ e : Effects, t = s.withEffects e ∧ ∀ b ∈ e.branches, MayBranch i s b := exec_adds i s t h

/-- E1 of a packet adds effects to what is in flight, each branch among them from one of its instructions. -/
theorem execAll_eq_next (is : List Instr) {s t : State} (h : execAll is s = .next t) :
    ∃ e : Effects, t = s.withEffects e ∧ ∀ b ∈ e.branches, ∃ i ∈ is, MayBranch i s b := by
  induction is generalizing s with
  | nil => cases h; exact ⟨.empty, by simp, by simp [Effects.empty]⟩
  | cons i is ih =>
    obtain ⟨u, hu, ht⟩ := execAll_cons_eq_next.1 h
    obtain ⟨e, rfl, he⟩ := exec_eq_next hu
    obtain ⟨f, rfl, hf⟩ := ih ht
    refine ⟨e.append f, State.withEffects_withEffects s e f, fun b hb => ?_⟩
    rcases List.mem_append.1 hb with hb | hb
    · exact ⟨i, by simp, he b hb⟩
    · obtain ⟨j, hj, hm⟩ := hf b hb
      exact ⟨j, by simp [hj], hm.branches, hm.left_eq, hm.target_aligned⟩

/-! ### Branches in the phases of a cycle -/

/-- The memory phase leaves pending branches and the branch shadow alone. -/
theorem memPhase_branches {s t : State} (h : memPhase s = .next t) :
    t.flight.pb = s.flight.pb ∧ t.flight.bshadow = s.flight.bshadow := by
  obtain ⟨-, -, -, rfl⟩ := memPhase_eq_next h
  exact ⟨rfl, rfl⟩

/-- A branch that still pends after R155 step 6 did so before it, with one cycle more to go. -/
theorem branchPhase_pending {s t : State} {next : Word} (h : branchPhase s next = .next t) :
    t.flight.bshadow = s.flight.bshadow ∧
      ∀ b ∈ t.flight.pb, ∃ c ∈ s.flight.pb, b.target = c.target ∧ c.left = b.left + 1 := by
  have hpb : t.flight.bshadow = s.flight.bshadow ∧
      t.flight.pb = (s.flight.pb.filter fun b => b.left != 0).map fun b => { b with left := b.left - 1 } := by
    rcases branchPhase_eq_next h with ⟨-, rfl⟩ | ⟨b, -, rfl⟩ <;> exact ⟨rfl, rfl⟩
  refine ⟨hpb.1, fun b hb => ?_⟩
  rw [hpb.2] at hb
  obtain ⟨c, hc, rfl⟩ := List.mem_map.1 hb
  obtain ⟨hc, h0⟩ := List.mem_filter.1 hc
  have hleft : c.left ≠ 0 := by simpa using h0
  exact ⟨c, hc, rfl, by simp only; omega⟩

/-- Where R155 step 6 goes: to the next address, or to the target of a pending branch. -/
theorem branchPhase_pc {s t : State} {next : Word} (h : branchPhase s next = .next t) :
    t.pce1 = s.pce1 ∧ (t.pc = next ∨ ∃ b ∈ s.flight.pb, t.pc = b.target) := by
  rcases branchPhase_eq_next h with ⟨-, rfl⟩ | ⟨b, hb, rfl⟩
  · exact ⟨rfl, .inl rfl⟩
  · exact ⟨rfl, .inr ⟨b, (List.mem_filter.1 (hb ▸ List.mem_singleton_self b)).1, rfl⟩⟩

/-! ### The branch shadow -/

/-- The end of a cycle: a branch that could land in the last cycle of the new shadow, or sooner, lies inside it afterwards. -/
theorem endOfCycle_shadow {r next : Word} {branched : Bool} {s t : State} (hs : s.flight.bshadow ≤ 5)
    (hb : ∀ b ∈ s.flight.pb, b.left ≤ if branched then 5 else s.flight.bshadow - 1)
    (h : endOfCycle r next branched s = .next t) : shadowInv t := by
  obtain ⟨u, v, w, hu, hv, hw, rfl⟩ := endOfCycle_eq_next.1 h
  obtain ⟨hupb, hush⟩ := memPhase_branches hu
  obtain ⟨-, -, -, -, -, hvpb, hvsh⟩ := landPhase_frame hv
  obtain ⟨hwsh, hwpb⟩ := branchPhase_pending hw
  have hshadow : w.flight.bshadow = s.flight.bshadow := by rw [hwsh, hvsh, hush]
  refine ⟨?_, fun b hbw => ?_⟩
  · simp only [closeCycle_flight]; split <;> omega
  · obtain ⟨c, hc, -, hleft⟩ := hwpb b hbw
    have := hb c (by rwa [← hupb, ← hvpb])
    simp only [closeCycle_flight, hshadow]
    omega

/-- The end of a cycle in which no branch instruction was issued takes one from the shadow. -/
theorem endOfCycle_shadow_of_not_branched {r next : Word} {s t : State}
    (h : endOfCycle r next false s = .next t) (hs : shadowInv s) : shadowInv t :=
  endOfCycle_shadow hs.1 (by simpa using fun b hb => Nat.le_sub_one_of_lt (hs.2 b hb)) h

/-- A packet puts a branch in flight only when it holds a branch instruction, and that opens the shadow anew. -/
theorem runPacket_shadow {r : Word} {ep : List Instr} {s t : State} (h : runPacket r ep s = .next t)
    (hs : shadowInv s) : shadowInv t := by
  obtain ⟨hle, hpend⟩ := hs
  obtain ⟨-, u, hu, h⟩ := runPacket_eq_next h
  obtain ⟨e, rfl, he⟩ := execAll_eq_next ep hu
  refine endOfCycle_shadow (by simpa using hle) (fun b hb => ?_) h
  simp only [State.withEffects_flight_pb, State.withEffects_flight_bshadow, List.mem_append] at hb ⊢
  rcases hb with hb | hb
  · have := hpend b hb
    split <;> omega
  · obtain ⟨i, hi, hbi⟩ := he b hb
    have hany : (ep.any fun i => i.demand.branch) = true := List.any_eq_true.2 ⟨i, hi, hbi.branches⟩
    simp [hany, hbi.left_eq, branchDelay]

/-- A cycle without reset or interrupt keeps the shadow. -/
theorem executeCycle_shadow {r : Word} {s t : State} (h : executeCycle r s = .next t) (hs : shadowInv s) : shadowInv t := by
  rcases executeCycle_eq_next h with ⟨-, h⟩ | ⟨-, -, h⟩ | ⟨-, -, ep, -, h⟩
  · exact endOfCycle_shadow_of_not_branched h hs
  · exact endOfCycle_shadow_of_not_branched h hs
  · exact runPacket_shadow h hs

/-- Draining lands no branch and opens no shadow. -/
theorem drain_shadow {r : Word} {n : Nat} {s t : State} (h : drain r n s = .next t) (hs : shadowInv s) : shadowInv t := by
  refine drain_keeps (P := shadowInv) (fun s t hs h => ?_) (fun s t hs h => ?_) n hs h
  · obtain ⟨hpb, hsh⟩ := memPhase_branches h
    rwa [shadowInv, hpb, hsh]
  · obtain ⟨-, -, -, -, -, hpb, hsh⟩ := landPhase_frame h
    rwa [shadowInv, hpb, hsh]

/-- Settles O59: reset leaves no branch, the entry to an interrupt leaves what the drain left, and every other cycle takes one
from the shadow and from each pending branch, or opens the shadow anew. -/
theorem everyStepKeepsBranchShadow : Obligations.EveryStepKeepsBranchShadow := by
  intro s t hs h
  rcases step_eq_next h with ⟨-, rfl⟩ | ⟨-, n, -, -, h⟩ | ⟨-, -, h⟩
  · simp [shadowInv, Flight.empty]
  · obtain ⟨u, hu, rfl⟩ := takeInterrupt_eq_next h
    have hdrained : shadowInv u := drain_shadow hu hs
    exact hdrained
  · exact executeCycle_shadow h hs

/-! ### The alignment of fetch addresses -/

/-- A fetch packet starts at a multiple of 32 (R32, R150). -/
theorem fetchPacket_aligned (pc : Word) : (fetchPacket pc).toNat % 32 = 0 := by
  have hlow : (fetchPacket pc).extractLsb' 0 5 = 0 := by
    apply BitVec.eq_of_getLsbD_eq
    intro j hj
    interval_cases j <;> simp [fetchPacket]
  simpa [BitVec.extractLsb'_toNat] using congrArg BitVec.toNat hlow

/-- A service fetch packet starts at a multiple of 32 (R345). -/
theorem serviceAddress_aligned (c : Ctrl) (n : Nat) : (serviceAddress c n).toNat % 32 = 0 := by
  simp only [serviceAddress, BitVec.toNat_add, BitVec.toNat_append, BitVec.toNat_ofNat, Nat.shiftLeft_eq]
  simp
  omega

/-- E1 of an instruction keeps the alignment: what it adds to PB is aligned, and pc and PCE1 stay. -/
theorem exec_fetchInv {i : Instr} {s t : State} (hs : fetchInv s) (h : exec i s = .next t) : fetchInv t := by
  obtain ⟨hpc, hpce1, hpb⟩ := hs
  obtain ⟨e, rfl, he⟩ := exec_eq_next h
  refine ⟨hpc, hpce1, fun b hb => ?_⟩
  rcases List.mem_append.1 hb with hb | hb
  · exact hpb b hb
  · exact (he b hb).target_aligned hpce1

/-- R155 step 6 keeps the alignment: pc becomes an aligned address or an aligned target. -/
theorem branchPhase_fetchInv {s t : State} {next : Word} (hs : fetchInv s) (hn : next.toNat % 4 = 0)
    (h : branchPhase s next = .next t) : fetchInv t := by
  obtain ⟨-, hpce1, hpb⟩ := hs
  obtain ⟨hpce1', hpc⟩ := branchPhase_pc h
  obtain ⟨-, hpend⟩ := branchPhase_pending h
  refine ⟨?_, by rwa [hpce1'], fun b hb => ?_⟩
  · rcases hpc with hpc | ⟨b, hb, hpc⟩
    · rwa [hpc]
    · rw [hpc]; exact hpb b hb
  · obtain ⟨c, hc, htarget, -⟩ := hpend b hb
    rw [htarget]; exact hpb c hc

/-- Settles O57, phase by phase. -/
theorem everyStepKeepsFetchAlignment : Obligations.EveryStepKeepsFetchAlignment := by
  intro s t hs h
  refine step_keeps (P := fetchInv) ?reset (fun _ _ hs => hs) ?pce1 (fun _ hs => hs) (fun _ _ _ => exec_fetchInv) ?mem
    ?land (fun _ _ _ => branchPhase_fetchInv) (fun _ _ hs => hs) ?enter (fun _ hs => hs.1) hs h
  case reset => intro s _; simp [fetchInv, Flight.empty]
  case pce1 => exact fun s ⟨hpc, _, hpb⟩ => ⟨hpc, fetchPacket_aligned s.pc, hpb⟩
  case mem =>
    intro s t hs h
    obtain ⟨-, -, -, hpc, hpce1, -⟩ := memPhase_frame h
    obtain ⟨hpb, -⟩ := memPhase_branches h
    rwa [fetchInv, hpc, hpce1, hpb]
  case land =>
    intro s t r hs h
    obtain ⟨-, hpc, hpce1, -, -, hpb, -⟩ := landPhase_frame h
    rwa [fetchInv, hpc, hpce1, hpb]
  case enter =>
    intro s n ⟨_, hpce1, hpb⟩
    have := serviceAddress_aligned s.ctrl n
    exact ⟨by simp only [enterInterrupt_pc]; omega, hpce1, hpb⟩

end Sys2Proof.Machine

/-! PROOFS. What a cycle does to the control registers, and the two whole-machine rules about them (O58, O55). -/
namespace Sys2Proof.Machine

/-! ### What a cycle does to the control registers -/

/-- A property of the control registers that requests, writes that land, SAT and branches that land do not break. -/
structure KeptInCycle (C : Ctrl → Prop) : Prop where
  raise : ∀ {c} w, C c → C { c with ifr := c.ifr ||| (w &&& requestFlags) }
  land : ∀ {c} d w, C c → C (c.land d w)
  sat : ∀ {c}, C c → C { c with csr := setSat c.csr }
  branch : ∀ {c} k, C c → C (c.afterBranch k)

/-- R155 step 6 changes the control registers only by the kind of the branch that lands. -/
theorem branchPhase_ctrl {s t : State} {next : Word} (h : branchPhase s next = .next t) :
    t.params = s.params ∧ (t.ctrl = s.ctrl ∨ ∃ k, t.ctrl = s.ctrl.afterBranch k) := by
  rcases branchPhase_eq_next h with ⟨-, rfl⟩ | ⟨b, -, rfl⟩
  · exact ⟨rfl, .inl rfl⟩
  · exact ⟨rfl, .inr ⟨b.kind, rfl⟩⟩

section
variable {C : Ctrl → Prop} {r : Word} {s t : State}

theorem KeptInCycle.applyWrites (hC : KeptInCycle C) (ws : List Write) (hs : C s.ctrl) : C (ws.foldl applyWrite s).ctrl := by
  induction ws generalizing s with
  | nil => exact hs
  | cons w ws ih =>
    refine ih ?_
    unfold applyWrite
    split
    · exact hs
    · exact hC.land _ _ hs

theorem KeptInCycle.landPhase (hC : KeptInCycle C) (h : landPhase s r = .next t) (hs : C s.ctrl) :
    t.params = s.params ∧ C t.ctrl := by
  have hparams := (landPhase_frame h).1
  obtain ⟨u, hu, rfl⟩ := landPhase_eq_next h
  obtain ⟨-, rfl⟩ := landWrites_eq_next hu
  have hw := hC.applyWrites s.dueWrites hs
  refine ⟨hparams, hC.raise r ?_⟩
  simp only [landSat_ctrl]
  split
  · exact hC.sat hw
  · exact hw

theorem KeptInCycle.endOfCycle (hC : KeptInCycle C) {next : Word} {b : Bool} (h : endOfCycle r next b s = .next t)
    (hs : C s.ctrl) : t.params = s.params ∧ C t.ctrl := by
  obtain ⟨u, v, w, hu, hv, hw, rfl⟩ := endOfCycle_eq_next.1 h
  obtain ⟨hup, -, huc, -⟩ := memPhase_frame hu
  obtain ⟨hvp, hvc⟩ := hC.landPhase hv (huc ▸ hs)
  obtain ⟨hwp, hwc⟩ := branchPhase_ctrl hw
  refine ⟨by simp [hwp, hvp, hup], ?_⟩
  rcases hwc with hwc | ⟨k, hwc⟩
  · exact hwc ▸ hvc
  · exact hwc ▸ hC.branch k hvc

/-- A cycle without reset or interrupt keeps such a property, and the launch parameters. -/
theorem KeptInCycle.executeCycle (hC : KeptInCycle C) (h : executeCycle r s = .next t) (hs : C s.ctrl) :
    t.params = s.params ∧ C t.ctrl := by
  rcases executeCycle_eq_next h with ⟨-, h⟩ | ⟨-, -, h⟩ | ⟨-, -, ep, -, h⟩
  · exact hC.endOfCycle h hs
  · exact (hC.endOfCycle h hs :)
  · obtain ⟨-, u, hu, h⟩ := runPacket_eq_next h
    obtain ⟨e, rfl, -⟩ := execAll_eq_next ep hu
    exact (hC.endOfCycle h hs :)

/-- So does the drain before an interrupt, which leaves pc alone too (R351). -/
theorem KeptInCycle.drain (hC : KeptInCycle C) {n : Nat} (h : drain r n s = .next t) (hs : C s.ctrl) :
    t.params = s.params ∧ t.pc = s.pc ∧ C t.ctrl := by
  refine drain_keeps (P := fun u => u.params = s.params ∧ u.pc = s.pc ∧ C u.ctrl) ?mem ?land n ⟨rfl, rfl, hs⟩ h
  case mem =>
    intro u v ⟨hp, hpc, hc⟩ huv
    obtain ⟨hvp, -, hvc, hvpc, -⟩ := memPhase_frame huv
    exact ⟨hvp.trans hp, hvpc.trans hpc, hvc ▸ hc⟩
  case land =>
    intro u v ⟨hp, hpc, hc⟩ huv
    obtain ⟨hvp, hvc⟩ := hC.landPhase huv hc
    obtain ⟨-, hvpc, -⟩ := landPhase_frame huv
    exact ⟨hvp.trans hp, hvpc.trans hpc, hvc⟩

end

/-! ### Bits under a mask -/

section
variable {x y w c m k : Word}

theorem and_mask_eq_zero (hc : c &&& m = 0) : w &&& c &&& m = 0 := by
  simp [BitVec.and_assoc, hc]

theorem or_masked (h : x &&& m = k) (hy : y &&& m = 0) : (x ||| y) &&& m = k := by
  rw [BitVec.and_comm, BitVec.and_or_distrib_left, BitVec.and_comm m x, BitVec.and_comm m y, h, hy]
  exact BitVec.or_zero

theorem and_masked_eq_zero (h : x &&& m = 0) : x &&& y &&& m = 0 := by
  rw [BitVec.and_assoc, BitVec.and_comm y m, ← BitVec.and_assoc, h]
  exact BitVec.zero_and

theorem and_masked_of_keeps (h : x &&& m = k) (hc : c &&& m = m) : x &&& c &&& m = k := by
  rw [BitVec.and_assoc, hc, h]

end

/-! ### The reserved bits (R37, R38, R41, R44, R50-R52) -/

/-- The conjuncts of `controlInv`, by name. -/
structure Ctrl.Reserved (p : Params) (c : Ctrl) : Prop where
  amr : c.amr &&& 0xFC000000 = 0
  csr : c.csr &&& 0xFFFF0100 = csrReset p
  ifr : c.ifr &&& 0xFFFF000D = 0
  ier : c.ier &&& 0xFFFF000D = 1
  fadcr : c.fadcr &&& 0xF800F800 = 0
  faucr : c.faucr &&& 0xF800F800 = 0
  fmcr : c.fmcr &&& 0xF800F800 = 0

theorem controlInv_iff {s : State} : controlInv s ↔ s.ctrl.Reserved s.params :=
  ⟨fun ⟨h1, h2, h3, h4, h5, h6, h7⟩ => ⟨h1, h2, h3, h4, h5, h6, h7⟩,
    fun ⟨h1, h2, h3, h4, h5, h6, h7⟩ => ⟨h1, h2, h3, h4, h5, h6, h7⟩⟩

theorem csrReset_masked (p : Params) : csrReset p &&& 0xFFFF0100 = csrReset p := by
  apply BitVec.eq_of_getLsbD_eq
  intro j hj
  interval_cases j <;> (simp only [csrReset, BitVec.getLsbD_and, BitVec.getLsbD_append]; simp)

theorem one_and_reserved : (1 : Word) &&& 0xFFFF000D = 1 := rfl

theorem Ctrl.reset_reserved (p : Params) : (Ctrl.reset p).Reserved p :=
  { amr := BitVec.zero_and, csr := csrReset_masked p, ifr := BitVec.zero_and, ier := one_and_reserved, fadcr := BitVec.zero_and
    faucr := BitVec.zero_and, fmcr := BitVec.zero_and }

theorem csrWrite_masked (old w : Word) : csrWrite old w &&& 0xFFFF0100 = old &&& 0xFFFF0100 :=
  or_masked (or_masked (and_masked_of_keeps rfl rfl) (and_mask_eq_zero rfl)) (and_mask_eq_zero rfl)

theorem ierWrite_masked (old w : Word) : ierWrite old w &&& 0xFFFF000D = 1 :=
  or_masked (or_masked one_and_reserved (and_mask_eq_zero rfl)) (and_mask_eq_zero rfl)

theorem Ctrl.Reserved.land {p : Params} {c : Ctrl} (h : c.Reserved p) (d : CtrlDest) (w : Word) :
    (c.land d w).Reserved p := by
  cases d with
  | amr => exact { h with amr := and_mask_eq_zero rfl }
  | csr => exact { h with csr := (csrWrite_masked c.csr w).trans h.csr }
  | isr => exact { h with ifr := or_masked h.ifr (and_mask_eq_zero rfl) }
  | icr => exact { h with ifr := and_masked_eq_zero h.ifr }
  | ier => exact { h with ier := ierWrite_masked c.ier w }
  | istp | irp | nrp => exact { h with }
  | fadcr => exact { h with fadcr := and_mask_eq_zero rfl }
  | faucr => exact { h with faucr := and_mask_eq_zero rfl }
  | fmcr => exact { h with fmcr := and_mask_eq_zero rfl }

theorem Ctrl.Reserved.afterBranch {p : Params} {c : Ctrl} (h : c.Reserved p) (k : BranchKind) :
    (c.afterBranch k).Reserved p := by
  cases k with
  | plain => exact h
  | irp => exact { h with csr := or_masked (and_masked_of_keeps h.csr rfl) (and_mask_eq_zero rfl) }
  | nrp => exact { h with ier := or_masked h.ier rfl }

theorem Ctrl.reserved_keptInCycle (p : Params) : KeptInCycle (Ctrl.Reserved p) where
  raise _ h := { h with ifr := or_masked h.ifr (and_mask_eq_zero rfl) }
  land d w h := h.land d w
  sat h := { h with csr := or_masked h.csr rfl }
  branch k h := h.afterBranch k

/-- Taking an interrupt clears flags and NMIE, and moves GIE to PGIE. -/
theorem Ctrl.Reserved.entry {p : Params} {c : Ctrl} (h : c.Reserved p) (n : Nat) (pc : Word) : (c.entry n pc).Reserved p := by
  unfold Ctrl.entry
  split
  · exact { h with ifr := and_masked_eq_zero h.ifr, ier := and_masked_of_keeps h.ier rfl }
  · have hpgie : (c.csr &&& 1) <<< 1 &&& 0xFFFF0100 = 0 := by
      rw [BitVec.shiftLeft_and_distrib]
      exact and_mask_eq_zero rfl
    exact { h with
      ifr := and_masked_eq_zero h.ifr
      csr := or_masked (and_masked_of_keeps h.csr rfl) hpgie }

/-- Settles O58: each of the three kinds of step keeps the reserved bits. -/
theorem everyStepKeepsReservedControlBits : Obligations.EveryStepKeepsReservedControlBits := by
  intro s t hs h
  rw [controlInv_iff] at hs ⊢
  have hkept := Ctrl.reserved_keptInCycle s.params
  have hraised : (raiseFlags s.advanceEnv s.input.requests).ctrl.Reserved s.params := hkept.raise _ hs
  rcases step_eq_next h with ⟨-, rfl⟩ | ⟨-, n, -, -, h⟩ | ⟨-, -, h⟩
  · exact Ctrl.reset_reserved s.params
  · obtain ⟨u, hu, rfl⟩ := takeInterrupt_eq_next h
    obtain ⟨hp, -, hc⟩ := hkept.drain hu hraised
    simp only [enterInterrupt_params, enterInterrupt_ctrl, hp]
    exact hc.entry n u.pc
  · obtain ⟨hp, hc⟩ := hkept.executeCycle h hraised
    rwa [hp]

/-! ### NMIE (R44, R353) -/

/-- Within a cycle NMIE can be set and not cleared: IER writes keep a set NMIE, and B NRP sets it. -/
theorem nmie_keptInCycle : KeptInCycle fun c => c.ier.getLsbD 1 = true where
  raise _ h := h
  sat h := h
  land d w h := by
    cases d with
    | ier => simp [Ctrl.land, ierWrite, h]
    | amr | csr | isr | icr | istp | irp | nrp | fadcr | faucr | fmcr => exact h
  branch k h := by
    cases k with
    | plain | irp => exact h
    | nrp => simp [Ctrl.afterBranch, returnNrp]

/-- Taking a maskable interrupt leaves IER alone (R352). -/
theorem Ctrl.entry_ier_of_ne_one {n : Nat} (hn : n ≠ 1) (c : Ctrl) (pc : Word) : (c.entry n pc).ier = c.ier := by
  simp [Ctrl.entry, hn]

/-- Taking the NMI saves pc in NRP (R353). -/
theorem Ctrl.entry_one_nrp (c : Ctrl) (pc : Word) : (c.entry 1 pc).nrp = pc := rfl

/-- Settles O55: of the three kinds of step a cycle without reset or interrupt keeps a set NMIE, and of the interrupts only
the NMI clears it. -/
theorem onlyResetOrNmiClearsNmie : Obligations.OnlyResetOrNmiClearsNmie := by
  intro s t h hset hclear
  rcases step_eq_next h with ⟨hr, -⟩ | ⟨hr, n, hn, -, h⟩ | ⟨-, -, h⟩
  · exact .inl hr
  · obtain ⟨u, hu, rfl⟩ := takeInterrupt_eq_next h
    obtain ⟨-, hpc, hnmie⟩ := nmie_keptInCycle.drain hu hset
    by_cases h1 : n = 1
    · subst h1
      exact .inr ⟨hr, hn, (Ctrl.entry_one_nrp u.ctrl u.pc).trans hpc⟩
    · rw [enterInterrupt_ctrl, Ctrl.entry_ier_of_ne_one h1, hnmie] at hclear
      cases hclear
  · obtain ⟨-, hnmie⟩ := nmie_keptInCycle.executeCycle h hset
    rw [hnmie] at hclear
    cases hclear

end Sys2Proof.Machine

/-! PROOFS. The guard of every instruction (O6), MVC (O26, O27), what lands in the registers (O28, O30, O32), and the state
after reset (O47, O60). -/
namespace Sys2Proof.Machine

/-! ### The guard (R21, R36, R112, R128) -/

/-- The meaning of every instruction stands behind the guard. -/
theorem exec_eq_issue (i : Instr) (s : State) : ∃ body, exec i s = issue i s body := by
  cases i <;> exact ⟨_, rfl⟩

/-- What the guard finds wrong with an instruction is the fault of E1, whatever its condition. -/
theorem exec_of_illegality {i : Instr} {s : State} {f : Fault} (h : illegality s.params.variant i = some f) :
    exec i s = .fault f := by
  obtain ⟨body, hbody⟩ := exec_eq_issue i s
  rw [hbody, issue, h]

/-- The checks of the guard, one after another. -/
theorem illegality_eq (v : Variant) (i : Instr) : illegality v i =
    if (condExists v i && cstFits v i && dwordExists v i && dwordEven i) = false then some .reservedEncoding
    else if regsExist v i = false then some .noSuchRegister
    else if pairsEven i = false then some .oddRegisterForPair
    else if ctrlLegal v i = false then some .illegalControlRegister
    else none := by
  simp [illegality, or_assoc, imp_iff_not_or]

/-- Settles O6: the guard makes its four checks in the order of the statement. -/
theorem illegalInstructionFaults : Obligations.IllegalInstructionFaults := by
  intro i s v known
  have hpass : ∀ {b : Bool} {q r : Option Fault}, b = true → (if b = false then q else r) = r :=
    fun hb => if_neg (ne_false_of_eq_true hb)
  refine ⟨fun hk => exec_of_illegality ?_, fun hk hr => exec_of_illegality ?_, fun hk hr hp => exec_of_illegality ?_,
    fun hk hr hp hc => exec_of_illegality ?_⟩ <;> refine (illegality_eq v i).trans ?_
  · exact if_pos hk
  · exact (hpass hk).trans (if_pos hr)
  · exact (hpass hk).trans ((hpass hr).trans (if_pos hp))
  · exact (hpass hk).trans ((hpass hr).trans ((hpass hp).trans (if_pos hc)))

/-! ### MVC (R36, R45, R226) -/

theorem exec_mvcRead_of_ready {s : State} {o : MvcReadForm} (h : ready s (.mvcRead o)) :
    exec (.mvcRead o) s = .next (s.putWord .b o.dst (s.ctrlRead o.cr) 0) := issue_of_ready h.1 h.2

/-- An interrupt is among those that can be pending and enabled when it is the NMI or one of 4 to 15. -/
theorem mem_interruptNumbers (n : Nat) : n ∈ interruptNumbers ↔ n = 1 ∨ 4 ≤ n ∧ n ≤ 15 := by
  simp only [interruptNumbers, List.mem_cons, List.not_mem_nil, or_false]
  omega

theorem interruptNumbers_sorted : interruptNumbers.Pairwise (· < ·) := by decide

/-- What `find?` finds in a rising list is the least of its elements with the property. -/
theorem find?_eq_some_of_sorted {p : Nat → Bool} {l : List Nat} (hl : l.Pairwise (· < ·)) {n : Nat}
    (h : l.find? p = some n) : n ∈ l ∧ p n = true ∧ ∀ m ∈ l, m < n → p m = false := by
  obtain ⟨hp, xs, ys, rfl, hxs⟩ := List.find?_eq_some_iff_append.1 h
  refine ⟨by simp, hp, fun m hm hmn => ?_⟩
  obtain ⟨-, hys, -⟩ := List.pairwise_append.1 hl
  rcases List.mem_append.1 hm with hm | hm
  · simpa using hxs m hm
  · rcases List.mem_cons.1 hm with rfl | hm
    · omega
    · have := List.rel_of_pairwise_cons hys hm
      omega

/-- HPEINT: 0 when no interrupt is pending and enabled, else the least one that is (R45). -/
theorem hpeint_spec (c : Ctrl) :
    (hpeint c = 0 ∧ ∀ m ∈ interruptNumbers, ¬ (c.ifr.getLsbD m = true ∧ c.ier.getLsbD m = true)) ∨
    (hpeint c ∈ interruptNumbers ∧ (c.ifr.getLsbD (hpeint c) = true ∧ c.ier.getLsbD (hpeint c) = true) ∧
      ∀ m ∈ interruptNumbers, m < hpeint c → ¬ (c.ifr.getLsbD m = true ∧ c.ier.getLsbD m = true)) := by
  unfold hpeint
  cases hf : interruptNumbers.find? fun n => (c.ifr &&& c.ier).getLsbD n with
  | none =>
    refine .inl ⟨rfl, fun m hm => ?_⟩
    simpa using List.find?_eq_none.1 hf m hm
  | some n =>
    obtain ⟨hn, hp, hleast⟩ := find?_eq_some_of_sorted interruptNumbers_sorted hf
    refine .inr ⟨hn, by simpa using hp, fun m hm hmn => ?_⟩
    simpa using hleast m hm hmn

theorem hpeint_lt (c : Ctrl) : hpeint c < 16 := by
  rcases hpeint_spec c with ⟨h, -⟩ | ⟨h, -⟩
  · omega
  · rw [mem_interruptNumbers] at h
    omega

/-! The three fields of ISTP. -/

theorem istpWord_istb (c : Ctrl) : (istpWord c).extractLsb' 10 22 = c.istb := by
  apply BitVec.eq_of_getLsbD_eq
  intro j hj
  have hlow : ¬ 10 + j < 5 := by omega
  have hmid : ¬ 10 + j - 5 < 5 := by omega
  have hhigh : 10 + j - 5 - 5 = j := by omega
  simp only [istpWord, BitVec.getLsbD_extractLsb', BitVec.getLsbD_append, hlow, hmid, hhigh, hj]
  simp

theorem istpWord_low (c : Ctrl) : (istpWord c).extractLsb' 0 5 = 0 := by
  apply BitVec.eq_of_getLsbD_eq
  intro j hj
  simp only [istpWord, BitVec.getLsbD_extractLsb', BitVec.getLsbD_append]
  simp [hj]

theorem istpWord_hpeint (c : Ctrl) : ((istpWord c).extractLsb' 5 5).toNat = hpeint c := by
  have hfield : (istpWord c).extractLsb' 5 5 = BitVec.ofNat 5 (hpeint c) := by
    apply BitVec.eq_of_getLsbD_eq
    intro j hj
    have : 5 + j < 10 := by omega
    simp only [istpWord, BitVec.getLsbD_extractLsb', BitVec.getLsbD_append]
    simp [hj]
  have := hpeint_lt c
  rw [hfield, BitVec.toNat_ofNat, Nat.mod_eq_of_lt (by omega)]

/-- Settles O26: the value by the number, and ISTP field by field. -/
theorem controlRegisterReads : Obligations.ControlRegisterReads := by
  intro s o h
  refine ⟨s.ctrlRead o.cr, exec_mvcRead_of_ready h, ?_, ?_, ?_, ?_, ?_, ?_, ?_, ?_, ?_, ?_, fun hcr => ?_⟩
  iterate 10 · intro hcr; rw [hcr]; rfl
  have hread : s.ctrlRead o.cr = istpWord s.ctrl := by rw [hcr]; rfl
  rw [hread]
  refine ⟨istpWord_istb s.ctrl, istpWord_low s.ctrl, fun n hn => ?_⟩
  rw [istpWord_hpeint] at hn
  subst hn
  rcases hpeint_spec s.ctrl with ⟨h0, hnone⟩ | ⟨hmem, ⟨hifr, hier⟩, hleast⟩
  · exact .inl ⟨h0, fun m hm => hnone m ((mem_interruptNumbers m).2 hm)⟩
  · have hrange := (mem_interruptNumbers _).1 hmem
    exact .inr ⟨hrange, hifr, hier, fun m hm hlt => hleast m ((mem_interruptNumbers m).2 (by omega)) hlt⟩

/-- Every number that MVC may write has its effect (R36). -/
theorem ctrlDest_isSome_of_writable (v : Variant) (n : BitVec 5) : ctrlWritable v n = true → (ctrlDest n).isSome = true := by
  cases v <;> revert n <;> decide

/-- The delay slots by the number: ISR is 2, ICR is 3 (R36, R410). -/
theorem ctrlDelay_of_ctrlDest : ∀ n : BitVec 5, ∀ c ∈ ctrlDest n, ctrlDelay c = if n = 2 ∨ n = 3 then 1 else 0 := by
  decide

/-- A well-formed instruction names control registers in their direction only. -/
theorem ctrlLegal_of_wf {v : Variant} {i : Instr} (h : wf v i = true) : ctrlLegal v i = true :=
  (Bool.and_eq_true_iff.1 h).2

theorem exec_mvcWrite_of_ready {s : State} {o : MvcWriteForm} {c : CtrlDest} (h : ready s (.mvcWrite o))
    (hc : ctrlDest o.cr = some c) :
    exec (.mvcWrite o) s = .next (s.putCtrl c (s.gpr (Side.b.via o.x) o.src2) (ctrlDelay c)) :=
  (issue_of_ready h.1 h.2).trans (by rw [hc])

/-- Settles O27: the number that passed the guard has its effect, and its delay slots. -/
theorem controlRegisterWrites : Obligations.ControlRegisterWrites := by
  intro s o h
  obtain ⟨c, hc⟩ := Option.isSome_iff_exists.1 (ctrlDest_isSome_of_writable _ _ (ctrlLegal_of_wf h.1))
  refine ⟨c, ?_, ?_, ?_, ?_, ?_, ?_, ?_, ?_, ?_, ?_, ?_, ?_⟩
  · rw [exec_mvcWrite_of_ready h hc, ctrlDelay_of_ctrlDest o.cr c hc]
    rfl
  all_goals
    intro hcr
    rw [hcr] at hc
    exact (Option.some.inj hc).symm

/-! ### Bits after a write to a control register (R37-R52, R410) -/

/-! The bits of the masks of Machine/Ops.lean. -/

theorem amrMask_bit : ∀ j < 32, (0x03FFFFFF : Word).getLsbD j = decide (j < 26) := by decide
theorem saturationMask_bit : ∀ j < 32, (0x07FF07FF : Word).getLsbD j = decide (j % 16 < 11) := by decide
theorem csrKeptMask_bit : ∀ j < 32, (0xFFFF0100 : Word).getLsbD j = decide (16 ≤ j ∨ j = 8) := by decide
theorem csrWrittenMask_bit : ∀ j < 32, (0x0000FCFF : Word).getLsbD j = decide (j < 16 ∧ j ≠ 8 ∧ j ≠ 9) := by decide
theorem csrSatMask_bit : ∀ j < 32, (0x00000200 : Word).getLsbD j = decide (j = 9) := by decide
theorem maskableFlags_bit : ∀ j < 32, maskableFlags.getLsbD j = decide (4 ≤ j ∧ j ≤ 15) := by decide
theorem word_one_bit : ∀ j < 32, (1 : Word).getLsbD j = decide (j = 0) := by decide
theorem word_two_bit : ∀ j < 32, (2 : Word).getLsbD j = decide (j = 1) := by decide

theorem csrWrite_bit (old w : Word) {j : Nat} (hj : j < 32) : (csrWrite old w).getLsbD j =
    if j = 9 then old.getLsbD 9 && w.getLsbD 9 else if 16 ≤ j ∨ j = 8 then old.getLsbD j else w.getLsbD j := by
  simp only [csrWrite, BitVec.getLsbD_or, BitVec.getLsbD_and, csrKeptMask_bit j hj, csrWrittenMask_bit j hj,
    csrSatMask_bit j hj]
  by_cases h9 : j = 9
  · subst h9; simp
  · by_cases hk : 16 ≤ j ∨ j = 8
    · have hw : ¬ (j < 16 ∧ j ≠ 8 ∧ j ≠ 9) := by omega
      simp only [h9, hk, hw, decide_true, decide_false, if_true, if_false, Bool.and_true, Bool.and_false, Bool.or_false]
    · have h16 : j < 16 := by omega
      have h8 : j ≠ 8 := by omega
      simp [h9, h8, h16, Nat.not_le.2 h16]

theorem ierWrite_bit (old w : Word) {j : Nat} (hj : j < 32) : (ierWrite old w).getLsbD j =
    if j = 0 then true else if j = 1 then old.getLsbD 1 || w.getLsbD 1 else decide (4 ≤ j ∧ j ≤ 15) && w.getLsbD j := by
  simp only [ierWrite, BitVec.getLsbD_or, BitVec.getLsbD_and, word_one_bit j hj, word_two_bit j hj,
    maskableFlags_bit j hj]
  by_cases h0 : j = 0
  · subst h0; simp
  · by_cases h1 : j = 1
    · subst h1; simp
    · simp [h0, h1, Bool.and_comm]

/-- Settles O28, register by register. -/
theorem controlRegisterBitsAfterWrite : Obligations.ControlRegisterBitsAfterWrite := by
  intro c w j hj
  have hsaturation : ∀ x : Word, (x &&& 0x07FF07FF).getLsbD j = (decide (j % 16 < 11) && x.getLsbD j) := fun x => by
    rw [BitVec.getLsbD_and, saturationMask_bit j hj, Bool.and_comm]
  have hflags : (w &&& maskableFlags).getLsbD j = (decide (4 ≤ j ∧ j ≤ 15) && w.getLsbD j) := by
    rw [BitVec.getLsbD_and, maskableFlags_bit j hj, Bool.and_comm]
  refine ⟨rfl, ?amr, rfl, csrWrite_bit _ _ hj, rfl, ierWrite_bit _ _ hj, rfl, ?istp, rfl, rfl, rfl, hsaturation w, rfl,
    hsaturation w, rfl, hsaturation w, rfl, ?isr, rfl, ?icr⟩
  case amr => rw [Ctrl.land, BitVec.getLsbD_and, amrMask_bit j hj, Bool.and_comm]
  case istp => simp [Ctrl.land, Nat.add_comm]
  case isr => rw [Ctrl.land, BitVec.getLsbD_or, hflags]
  case icr => simp only [Ctrl.land, BitVec.getLsbD_and, BitVec.getLsbD_not, hflags, hj, decide_true, Bool.true_and]

/-! ### Longs in register pairs (R24) -/

theorem gprLong_bit (s : State) (side : Side) (r : RegNum) {j : Nat} (hj : j < 40) : (s.gprLong side r).getLsbD j =
    if j < 32 then (s.gpr side r).getLsbD j else (s.gpr side (r + 1)).getLsbD (j - 32) := by
  simp only [State.gprLong, BitVec.getLsbD_append, BitVec.getLsbD_extractLsb', Nat.zero_add]
  have : j - 32 < 8 := by omega
  simp [this]

/-- Writes that name different registers land. -/
theorem landWrites_of_distinct {s : State} (h : distinct (s.dueWrites.map fun w => w.target.named) = true) :
    ∃ t, landWrites s = .next t ∧ t.regs = (s.dueWrites.foldl applyWrite s).regs :=
  ⟨_, if_pos h, rfl⟩

/-- A long write that lands alone leaves its two words in the pair. -/
theorem landWrites_putLong {s : State} (hs : s.flight.pw = []) (side : Side) (r : RegNum) (v : Long) :
    ∃ t, landWrites (s.putLong side r v) = .next t ∧ t.regs =
      (s.regs.set side r (v.extractLsb' 0 32)).set side (r + 1) ((v.extractLsb' 32 8).setWidth 32) := by
  have hdue : (s.putLong side r v).dueWrites =
      [⟨.gpr side r, v.extractLsb' 0 32, 0⟩, ⟨.gpr side (r + 1), (v.extractLsb' 32 8).setWidth 32, 0⟩] := by
    simp [State.dueWrites, hs]
  obtain ⟨t, ht, hregs⟩ := landWrites_of_distinct (s := s.putLong side r v) (by
    rw [hdue]; simp [distinct, Target.named])
  exact ⟨t, ht, by rw [hregs, hdue]; rfl⟩

/-- Settles O30: the pair is read bit by bit, and after the landing its two registers hold the two words of the long. -/
theorem longLivesInRegisterPair : Obligations.LongLivesInRegisterPair := by
  intro s side r
  refine ⟨fun j hj => gprLong_bit s side r hj, fun v hs _ => ?_⟩
  obtain ⟨t, ht, hregs⟩ := landWrites_putLong hs side r v
  have heven : t.gpr side r = v.extractLsb' 0 32 := by simp [State.gpr, hregs, Regs.get_set]
  have hodd : t.gpr side (r + 1) = (v.extractLsb' 32 8).setWidth 32 := by simp [State.gpr, hregs]
  refine ⟨t, ht, ?_, ?_, fun side' r' hne => ?_⟩
  · apply BitVec.eq_of_getLsbD_eq
    intro j hj
    rw [gprLong_bit t side r hj, heven, hodd]
    split
    · next hlow => simp [hlow]
    · next hhigh =>
      have hbyte : j - 32 < 8 := by omega
      have hword : 32 + (j - 32) = j := by omega
      simp [hbyte, hword]
      omega
  · rw [hodd]
    apply BitVec.eq_of_getLsbD_eq
    intro j hj
    simp
  · have hr : ¬ (side = side' ∧ r = r') := fun ⟨hs, hr⟩ => hne ⟨hs.symm, .inl hr.symm⟩
    have hr1 : ¬ (side = side' ∧ r + 1 = r') := fun ⟨hs, hr⟩ => hne ⟨hs.symm, .inr hr.symm⟩
    simp only [State.gpr, hregs, Regs.get_set, hr, hr1, if_false]

/-! ### The end of a cycle: SAT and requests (R41, R43, R409, R410) -/

theorem requestFlags_bit (n : Nat) : requestFlags.getLsbD n = decide (n = 1 ∨ 4 ≤ n ∧ n ≤ 15) := by
  by_cases hn : n < 32
  · have hmask : ∀ j < 32, requestFlags.getLsbD j = decide (j = 1 ∨ 4 ≤ j ∧ j ≤ 15) := by decide
    exact hmask n hn
  · rw [BitVec.getLsbD_of_ge _ _ (by omega), eq_comm, decide_eq_false_iff_not]
    omega

/-- A flag after requests: as before, or requested (R343). -/
theorem raiseFlags_bit (s : State) (requests : Word) (n : Nat) : (raiseFlags s requests).ctrl.ifr.getLsbD n =
    (s.ctrl.ifr.getLsbD n || requests.getLsbD n && decide (n = 1 ∨ 4 ≤ n ∧ n ≤ 15)) := by
  rw [raiseFlags_ctrl, BitVec.getLsbD_or, BitVec.getLsbD_and, requestFlags_bit]

/-- Writes to general registers leave the control registers alone. -/
theorem foldl_applyWrite_ctrl {ws : List Write} (h : ∀ w ∈ ws, ∀ c, w.target ≠ .ctrl c) (s : State) :
    (ws.foldl applyWrite s).ctrl = s.ctrl := by
  induction ws generalizing s with
  | nil => rfl
  | cons w ws ih =>
    have hw : (applyWrite s w).ctrl = s.ctrl := by
      unfold applyWrite
      split
      · rfl
      · next c hc => exact absurd hc (h w (by simp) c)
    rw [List.foldl_cons, ih fun u hu => h u (by simp [hu]), hw]

/-- Settles O32: SAT and requests come after the writes of the cycle. -/
theorem requestBeatsClear : Obligations.RequestBeatsClear := by
  intro s t requests h
  obtain ⟨u, hu, rfl⟩ := landPhase_eq_next h
  obtain ⟨-, rfl⟩ := landWrites_eq_next hu
  refine ⟨fun hsat => ?_, fun n hn hreq => ?_, fun hpw n hn => ?_⟩
  · have hdue : s.flight.psat.any (· == 0) = true := List.any_eq_true.2 ⟨0, hsat, rfl⟩
    simp [hdue, setSat]
  · rw [raiseFlags_bit, hreq, decide_eq_true hn, Bool.and_true, Bool.or_true]
  · have hnone : ∀ w ∈ s.dueWrites, ∀ c, w.target ≠ .ctrl c := fun w hw => by
      obtain ⟨hmem, hleft⟩ := List.mem_filter.1 hw
      exact hpw w hmem (by simpa using hleft)
    have hreq : (requests.getLsbD n && decide (n = 1 ∨ 4 ≤ n ∧ n ≤ 15)) = false := by
      rw [Bool.eq_false_iff, ne_eq, Bool.and_eq_true, decide_eq_true_iff]
      exact fun ⟨h1, h2⟩ => hn ⟨h2, h1⟩
    rw [raiseFlags_bit, hreq, Bool.or_false]
    simp [foldl_applyWrite_ctrl hnone]

/-! ### The state after reset (R55, R391) -/

/-- Settles O47. -/
theorem resetStateValues : Obligations.ResetStateValues := by
  unfold Obligations.ResetStateValues State.settled
  decide

/-- Settles O60: memory, PB and the shadow are empty, pc and PCE1 are 0, and the control registers have their reset values. -/
theorem resetStateHasInvariants : Obligations.ResetStateHasInvariants :=
  ⟨⟨reset_mem_wf, by simp [State.reset, Flight.empty]⟩, ⟨rfl, rfl, by simp [State.reset, Flight.empty]⟩,
    controlInv_iff.2 (Ctrl.reset_reserved _), ⟨Nat.zero_le 5, by simp [State.reset, Flight.empty]⟩⟩

end Sys2Proof.Machine

/-! PROOFS. What is read from memory after a write, what a load makes of it (O36, O35), and the memory phase (O37, O38). -/
namespace Sys2Proof.Machine

/-! ### Bytes and numbers (R84) -/

theorem natOfBytes_bytesOfNat (v n : Nat) : natOfBytes (bytesOfNat v n) = v % 2 ^ (8 * n) := by
  induction n generalizing v with
  | zero => simp [bytesOfNat, natOfBytes, Nat.mod_one]
  | succ n ih =>
    have hpow : 2 ^ (8 * (n + 1)) = 256 * 2 ^ (8 * n) := by rw [Nat.mul_succ, Nat.pow_add, Nat.mul_comm]
    rw [bytesOfNat, natOfBytes, ih, hpow, Nat.mod_mul, BitVec.toNat_ofNat]

/-- MemRead gives back the low bytes of what MemWrite wrote. -/
theorem memRead_memWrite {m : Memory} (hm : m.wf = true) (e : Endian) {a n : Nat} (v : Nat) (ha : a + n ≤ 2 ^ 32) :
    memRead e (memWrite e m a n v) a n = v % 2 ^ (8 * n) := by
  have hbytes : bytesAt (memWrite e m a n v) a n = byteOrder e (bytesOfNat v n) := by
    simpa [memWrite] using bytesAt_writeBytes hm (byteOrder e (bytesOfNat v n)) (by simpa using ha)
  rw [memRead, hbytes, byteOrder_byteOrder, natOfBytes_bytesOfNat]

/-- Settles O36, from the laws of bytes written one by one. -/
theorem memoryReadsBackWhatWasWritten : Obligations.MemoryReadsBackWhatWasWritten :=
  fun e m _ _ v hm ha => ⟨memRead_memWrite hm e v ha, memWrite_wf hm e v ha, fun _ hb => readByte_memWrite_outside e m v hb⟩

/-- A byte put below a bit vector. -/
theorem toNat_append_byte {w : Nat} (x : BitVec w) (b : Byte) : (x ++ b).toNat = b.toNat + 256 * x.toNat := by
  rw [BitVec.toNat_append, ← Nat.shiftLeft_add_eq_or_of_lt b.isLt, Nat.shiftLeft_eq]
  omega

theorem natOfBytes_two (b0 b1 : Byte) : natOfBytes [b0, b1] = (b1 ++ b0).toNat := by
  simp [natOfBytes, toNat_append_byte]

theorem natOfBytes_four (b0 b1 b2 b3 : Byte) : natOfBytes [b0, b1, b2, b3] = (b3 ++ b2 ++ b1 ++ b0).toNat := by
  simp [natOfBytes, toNat_append_byte]

/-- The number of eight bytes: two words, the low one first. -/
theorem natOfBytes_eight (b0 b1 b2 b3 b4 b5 b6 b7 : Byte) : natOfBytes [b0, b1, b2, b3, b4, b5, b6, b7] =
    (b3 ++ b2 ++ b1 ++ b0).toNat + 2 ^ 32 * (b7 ++ b6 ++ b5 ++ b4).toNat := by
  rw [← natOfBytes_four, ← natOfBytes_four]
  simp only [natOfBytes]
  omega

/-- The two words of a double word (R298). -/
theorem ofNat_low_word (x y : Word) : BitVec.ofNat 32 (x.toNat + 2 ^ 32 * y.toNat) = x := by
  apply BitVec.eq_of_toNat_eq
  simp only [BitVec.toNat_ofNat]
  omega

theorem ofNat_high_word (x y : Word) : BitVec.ofNat 32 ((x.toNat + 2 ^ 32 * y.toNat) / 2 ^ 32) = y := by
  apply BitVec.eq_of_toNat_eq
  simp only [BitVec.toNat_ofNat]
  omega

/-! MemRead by size, in both byte orders. -/

section
variable (e : Endian) (m : Memory) (a : Nat)

theorem memRead_one : memRead e m a 1 = (readByte m a).toNat := by
  cases e <;> simp [memRead, byteOrder, bytesAt, natOfBytes]

theorem memRead_two_little : memRead .little m a 2 = (readByte m (a + 1) ++ readByte m a).toNat := natOfBytes_two _ _

theorem memRead_two_big : memRead .big m a 2 = (readByte m a ++ readByte m (a + 1)).toNat := natOfBytes_two _ _

theorem memRead_four_little :
    memRead .little m a 4 = (readByte m (a + 3) ++ readByte m (a + 2) ++ readByte m (a + 1) ++ readByte m a).toNat :=
  natOfBytes_four _ _ _ _

theorem memRead_four_big :
    memRead .big m a 4 = (readByte m a ++ readByte m (a + 1) ++ readByte m (a + 2) ++ readByte m (a + 3)).toNat :=
  natOfBytes_four _ _ _ _

end

/-! A load's value by size (R290-R294). -/

theorem loadValue_byte_signed (x : Byte) : loadValue .byte true x.toNat = x.signExtend 32 := by
  rw [loadValue, BitVec.ofNat_toNat, BitVec.setWidth_eq]

theorem loadValue_half_signed (x : BitVec 16) : loadValue .half true x.toNat = x.signExtend 32 := by
  rw [loadValue, BitVec.ofNat_toNat, BitVec.setWidth_eq]

theorem loadValue_unsigned (z : Access) {w : Nat} (x : BitVec w) : loadValue z false x.toNat = x.setWidth 32 := by
  rw [← BitVec.ofNat_toNat]
  cases z <;> rfl

theorem loadValue_dword (g : Bool) (v : Nat) : loadValue .dword g v = BitVec.ofNat 32 v := rfl

/-- The double word of LDDW in its two registers: the low word in the even one (R298). -/
theorem loadWrites_dword {s : State} {l : Load} (hl : l.size = .dword) {x y : Word}
    (h : memRead s.params.endian s.mem l.addr.toNat 8 = x.toNat + 2 ^ 32 * y.toNat) :
    (loadWrites s l).map (fun w => (w.target, w.value)) = [(.gpr l.side l.dst, x), (.gpr l.side (l.dst + 1), y)] := by
  simp only [loadWrites, hl, Access.bytes, h, loadValue_dword, ofNat_low_word, ofNat_high_word, List.map_cons, List.map_nil]

/-- Settles O35, size by size. -/
theorem loadedValueFromBytes : Obligations.LoadedValueFromBytes := by
  intro m a b
  refine ⟨fun e => (congrArg _ (memRead_one e m a)).trans (loadValue_byte_signed _),
    fun e => (congrArg _ (memRead_one e m a)).trans (loadValue_unsigned _ _),
    (congrArg _ (memRead_two_little m a)).trans (loadValue_half_signed _),
    (congrArg _ (memRead_two_big m a)).trans (loadValue_half_signed _),
    (congrArg _ (memRead_two_little m a)).trans (loadValue_unsigned _ _),
    (congrArg _ (memRead_two_big m a)).trans (loadValue_unsigned _ _),
    (congrArg _ (memRead_four_little m a)).trans ((loadValue_unsigned _ _).trans (BitVec.setWidth_eq _)),
    (congrArg _ (memRead_four_big m a)).trans ((loadValue_unsigned _ _).trans (BitVec.setWidth_eq _)), fun s l hm ha hl => ?_⟩
  subst hm ha
  cases he : s.params.endian with
  | little => exact loadWrites_dword hl (he ▸ natOfBytes_eight _ _ _ _ _ _ _ _)
  | big => exact loadWrites_dword hl (he ▸ natOfBytes_eight _ _ _ _ _ _ _ _)

/-! ### The memory phase (R93, R95, R288) -/

/-- An access is possible exactly when each of its bytes is of the kind. -/
theorem allKind_iff {map : List Region} {k : MemKind} {a n : Nat} :
    allKind map k a n = true ↔ ∀ j < n, kindAt map (a + j) = some k := by
  induction n generalizing a with
  | zero => simp [allKind]
  | succ n ih =>
    rw [allKind, Bool.and_eq_true, decide_eq_true_iff, ih]
    constructor
    · rintro ⟨h0, h⟩ j hj
      cases j with
      | zero => exact h0
      | succ j => simpa [Nat.add_assoc, Nat.add_comm 1] using h j (by omega)
    · refine fun h => ⟨h 0 (by omega), fun j hj => ?_⟩
      simpa [Nat.add_assoc, Nat.add_comm 1] using h (j + 1) (by omega)

theorem accessible_iff {s : State} {a : Word} {z : Access} :
    s.accessible a z = true ↔ ∀ j < z.bytes, kindAt s.params.memmap (a.toNat + j) = some .data := allKind_iff

/-- The state after the accesses of a cycle. -/
def State.accessed (s : State) : State :=
  { s with
    mem := s.dueStores.foldl (performStore s.params.endian) s.mem
    flight := { s.flight with
      pw := s.flight.pw ++ s.dueLoads.flatMap (loadWrites s)
      pmLoads := (s.flight.pmLoads.filter fun l => l.left != 0).map fun l => { l with left := l.left - 1 }
      pmStores := (s.flight.pmStores.filter fun t => t.left != 0).map fun t => { t with left := t.left - 1 } } }

/-- The memory phase: its two stops, and the accesses. -/
theorem memPhase_eq (s : State) : memPhase s =
    if !(s.dueLoads.all fun l => s.accessible l.addr l.size) || !(s.dueStores.all fun t => s.accessible t.addr t.size) then
      .fault .stuckData
    else if !disjointStores s.dueStores then .fault .parallelStoreConflict
    else .next s.accessed := rfl

theorem memPhase_of_accessible {s : State} (hl : ∀ l ∈ s.dueLoads, s.accessible l.addr l.size = true)
    (hs : ∀ t ∈ s.dueStores, s.accessible t.addr t.size = true) :
    memPhase s = if disjointStores s.dueStores = true then .next s.accessed else .fault .parallelStoreConflict := by
  rw [memPhase_eq, List.all_eq_true.2 hl, List.all_eq_true.2 hs]
  cases disjointStores s.dueStores <;> rfl

theorem memPhase_of_store_not_accessible {s : State} {t : Store} (ht : t ∈ s.dueStores)
    (h : s.accessible t.addr t.size = false) : memPhase s = .fault .stuckData := by
  have hall : (s.dueStores.all fun t => s.accessible t.addr t.size) = false :=
    List.all_eq_false.2 ⟨t, ht, by simp [h]⟩
  rw [memPhase_eq, hall]
  simp

theorem overlap_iff {t u : Store} : overlap t u = true ↔
    t.addr.toNat < u.addr.toNat + u.size.bytes ∧ u.addr.toNat < t.addr.toNat + t.size.bytes := decide_eq_true_iff

theorem disjointStores_pair (t u : Store) : disjointStores [t, u] = !overlap t u := by
  simp [disjointStores]

/-! An access that E1 puts in flight is due in the same cycle (log 7). -/

section
variable (s : State) (a : Word) (z : Access) (g : Bool) (side : Side) (r : RegNum) (v : Word)

@[simp] theorem State.pendLoad_dueLoads :
    (s.pendLoad a z g side r).dueLoads = s.dueLoads ++ [⟨a, z, g, side, r, memLatency⟩] := by
  simp [State.dueLoads, memLatency]

@[simp] theorem State.pendLoad_dueStores : (s.pendLoad a z g side r).dueStores = s.dueStores := rfl

@[simp] theorem State.pendStore_dueLoads : (s.pendStore a z v).dueLoads = s.dueLoads := rfl

@[simp] theorem State.pendStore_dueStores :
    (s.pendStore a z v).dueStores = s.dueStores ++ [⟨a, z, v, memLatency⟩] := by
  simp [State.dueStores, memLatency]

@[simp] theorem State.pendLoad_accessible : (s.pendLoad a z g side r).accessible = s.accessible := rfl

@[simp] theorem State.pendStore_accessible : (s.pendStore a z v).accessible = s.accessible := rfl

end

theorem State.dueLoads_of_none {s : State} (h : s.flight.pmLoads = []) : s.dueLoads = [] := by simp [State.dueLoads, h]

theorem State.dueStores_of_none {s : State} (h : s.flight.pmStores = []) : s.dueStores = [] := by simp [State.dueStores, h]

theorem Flight.with_no_access {f : Flight} (hl : f.pmLoads = []) (hs : f.pmStores = []) :
    { f with pmLoads := [], pmStores := [] } = f := by
  rw [← hl, ← hs]

/-- A store alone in flight is performed, and nothing is left in flight that was not there before it. -/
theorem memPhase_pendStore {s : State} (hl : s.flight.pmLoads = []) (hs : s.flight.pmStores = []) {a v : Word} {z : Access}
    (ha : s.accessible a z = true) : memPhase (s.pendStore a z v) =
      .next { s with mem := memWrite s.params.endian s.mem a.toNat z.bytes v.toNat } := by
  rw [memPhase_of_accessible (by simp [State.dueLoads_of_none hl]) (by simp [State.dueStores_of_none hs, ha])]
  simp [State.accessed, State.dueLoads_of_none hl, State.dueStores_of_none hs, disjointStores, hl, hs, memLatency,
    Flight.with_no_access hl hs, performStore]

/-- Settles O37: the store is performed as MemWrite in its own cycle; a byte that is not data memory makes the access impossible. -/
theorem storeReachesMemory : Obligations.StoreReachesMemory := by
  intro s a v z hm hl hs hal
  refine ⟨fun ha => ⟨_, memPhase_pendStore hl hs ha, memRead_memWrite hm _ _ (aligned_end hal),
    fun _ => readByte_memWrite_outside _ _ _, rfl, rfl, rfl⟩, fun ⟨k, hk, hne⟩ => ?_⟩
  have hout : s.accessible a z = false := Bool.eq_false_iff.2 fun ha => hne (accessible_iff.1 ha k hk)
  exact memPhase_of_store_not_accessible (t := ⟨a, z, v, memLatency⟩) (by simp) hout

/-- The register writes of one load: four delay slots, for LDDW the odd register too (R298, R412). -/
theorem loadWrites_eq (s : State) (a : Word) (z : Access) (g : Bool) (side : Side) (r : RegNum) (n : Nat) :
    loadWrites s ⟨a, z, g, side, r, n⟩ =
      ⟨.gpr side r, loadValue z g (memRead s.params.endian s.mem a.toNat z.bytes), 4⟩ ::
      (if z = .dword then
        [⟨.gpr side (r + 1), BitVec.ofNat 32 (memRead s.params.endian s.mem a.toNat 8 / 2 ^ 32), 4⟩] else []) := by
  cases z <;> rfl

/-- Two stores alone in flight: performed in order, unless they overlap. -/
theorem memPhase_two_stores {s : State} (hl : s.flight.pmLoads = []) (hs : s.flight.pmStores = []) {a b v w : Word}
    {z y : Access} (ha : s.accessible a z = true) (hb : s.accessible b y = true) :
    memPhase ((s.pendStore a z v).pendStore b y w) =
      if overlap ⟨a, z, v, memLatency⟩ ⟨b, y, w, memLatency⟩ = true then .fault .parallelStoreConflict
      else .next ((s.pendStore a z v).pendStore b y w).accessed := by
  rw [memPhase_of_accessible (by simp [State.dueLoads_of_none hl]) (by simp [State.dueStores_of_none hs, ha, hb])]
  simp only [State.pendStore_dueStores, State.dueStores_of_none hs, List.nil_append, List.cons_append, disjointStores_pair]
  cases overlap ⟨a, z, v, memLatency⟩ ⟨b, y, w, memLatency⟩ <;> rfl

/-- Settles O38: the writes of the load are computed from the state before the stores, which are performed in order unless they overlap. -/
theorem loadsReadBeforeStoresOfPacket : Obligations.LoadsReadBeforeStoresOfPacket := by
  intro s a b v w z y g side r hl hs ha hb
  refine ⟨?_, fun ⟨c, hac, hca, hbc, hcb⟩ => ?_, fun hdisj => ?_⟩
  · refine ⟨((s.pendLoad a z g side r).pendStore b y v).accessed, ?_, ?_, ?_⟩
    · rw [memPhase_of_accessible (by simp [State.dueLoads_of_none hl, ha]) (by simp [State.dueStores_of_none hs, hb])]
      simp [State.dueStores_of_none hs, disjointStores]
    · simp [State.accessed, State.dueLoads_of_none hl, loadWrites_eq]
    · simp [State.accessed, State.dueStores_of_none hs, performStore]
  · rw [memPhase_two_stores hl hs ha hb, if_pos]
    rw [overlap_iff]
    constructor <;> simp only <;> omega
  · refine ⟨_, (memPhase_two_stores hl hs ha hb).trans (if_neg ?_), ?_⟩
    · rw [overlap_iff]
      simp only
      omega
    · simp [State.accessed, State.dueStores_of_none hs, performStore]

end Sys2Proof.Machine

/-! PROOFS. What every step keeps of memory: the bytes outside data memory (O54), the canonical form (O56). -/
namespace Sys2Proof.Machine

/-! ### What a step does to memory (R93, R95, R100, R393) -/

/-- A property of the parameters, memory and the pending stores that E1 and the memory phase keep. The first field says that
it is of that kind: a pending store may be dropped, and nothing else of the state counts. -/
structure KeptByAccesses (P : State → Prop) : Prop where
  congr : ∀ {s t}, P s → t.params = s.params → t.mem = s.mem → t.flight.pmStores ⊆ s.flight.pmStores → P t
  exec : ∀ {i s t}, exec i s = .next t → P s → P t
  access : ∀ {s t}, memPhase s = .next t → P s → P t

theorem landPhase_pmStores {s t : State} {r : Word} (h : landPhase s r = .next t) :
    t.flight.pmStores = s.flight.pmStores := by
  obtain ⟨u, hu, rfl⟩ := landPhase_eq_next h
  obtain ⟨-, rfl⟩ := landWrites_eq_next hu
  rfl

/-- R155 step 6 leaves memory and the accesses in flight alone. -/
theorem branchPhase_memory {s t : State} {next : Word} (h : branchPhase s next = .next t) :
    t.params = s.params ∧ t.mem = s.mem ∧ t.flight.pmStores = s.flight.pmStores := by
  rcases branchPhase_eq_next h with ⟨-, rfl⟩ | ⟨b, -, rfl⟩ <;> exact ⟨rfl, rfl, rfl⟩

section
variable {P : State → Prop} {r : Word} {s t : State}

theorem KeptByAccesses.landPhase (hP : KeptByAccesses P) (h : landPhase s r = .next t) (hs : P s) : P t := by
  obtain ⟨hparams, -, -, hmem, -⟩ := landPhase_frame h
  exact hP.congr hs hparams hmem fun _ hu => landPhase_pmStores h ▸ hu

theorem KeptByAccesses.endOfCycle (hP : KeptByAccesses P) {next : Word} {b : Bool} (h : endOfCycle r next b s = .next t)
    (hs : P s) : P t := by
  obtain ⟨u, v, w, hu, hv, hw, rfl⟩ := endOfCycle_eq_next.1 h
  obtain ⟨hparams, hmem, hstores⟩ := branchPhase_memory hw
  exact hP.congr (hP.landPhase hv (hP.access hu hs)) hparams hmem fun _ hu => hstores ▸ hu

theorem KeptByAccesses.executeCycle (hP : KeptByAccesses P) (h : executeCycle r s = .next t) (hs : P s) : P t := by
  rcases executeCycle_eq_next h with ⟨-, h⟩ | ⟨-, -, h⟩ | ⟨-, -, ep, -, h⟩
  · exact hP.endOfCycle h hs
  · exact hP.endOfCycle h (hP.congr hs rfl rfl (List.Subset.refl _))
  · obtain ⟨-, u, hu, h⟩ := runPacket_eq_next h
    refine hP.endOfCycle h (execAll_keeps (fun _ _ _ hs he => hP.exec he hs) ep ?_ hu)
    exact hP.congr hs rfl rfl (List.Subset.refl _)

/-- Such a property is kept by every step: reset and the entry to an interrupt write no memory and issue no store. -/
theorem KeptByAccesses.step (hP : KeptByAccesses P) (h : step s = .next t) (hs : P s) : P t := by
  have hraised : P (raiseFlags s.advanceEnv s.input.requests) := hP.congr hs rfl rfl (List.Subset.refl _)
  rcases step_eq_next h with ⟨-, rfl⟩ | ⟨-, n, -, -, h⟩ | ⟨-, -, h⟩
  · exact hP.congr hs rfl rfl (List.nil_subset _)
  · obtain ⟨u, hu, rfl⟩ := takeInterrupt_eq_next h
    have hdrained : P u :=
      drain_keeps (fun _ _ hs h => hP.access h hs) (fun _ _ hs h => hP.landPhase h hs) _ hraised hu
    exact hP.congr hdrained rfl rfl (List.Subset.refl _)
  · exact hP.executeCycle h hraised

end

/-- The launch parameters are those of `s`, and so is every byte outside data memory. -/
def SameOutsideData (s t : State) : Prop :=
  t.params = s.params ∧ ∀ a, kindAt s.params.memmap a ≠ some .data → readByte t.mem a = readByte s.mem a

theorem SameOutsideData.refl (s : State) : SameOutsideData s s := ⟨rfl, fun _ _ => rfl⟩

theorem SameOutsideData.trans {s t u : State} (ht : SameOutsideData s t) (hu : SameOutsideData t u) : SameOutsideData s u :=
  ⟨hu.1.trans ht.1, fun a ha => (hu.2 a (by rwa [ht.1])).trans (ht.2 a ha)⟩

/-- The memory phase performs only stores all of whose bytes are data memory (R93). -/
theorem memPhase_sameOutsideData {s t : State} (h : memPhase s = .next t) : SameOutsideData s t := by
  obtain ⟨-, hacc, -, rfl⟩ := memPhase_eq_next h
  refine ⟨rfl, fun a ha => readByte_performStores _ _ _ _ fun u hu => ?_⟩
  by_contra hin
  refine ha ?_
  have hdata := accessible_iff.1 (hacc u hu) (a - u.addr.toNat) (by omega)
  rwa [show u.addr.toNat + (a - u.addr.toNat) = a by omega] at hdata

theorem sameOutsideData_keptByAccesses (s : State) : KeptByAccesses (SameOutsideData s) where
  congr hs hparams hmem _ := hs.trans ⟨hparams, fun _ _ => by rw [hmem]⟩
  exec h hs := by
    obtain ⟨e, rfl, -⟩ := exec_eq_next h
    exact hs
  access h hs := hs.trans (memPhase_sameOutsideData h)

/-- Settles O54: only the memory phase writes memory, and only in data memory. -/
theorem onlyDataMemoryChanges : Obligations.OnlyDataMemoryChanges :=
  fun s _ h => (sameOutsideData_keptByAccesses s).step h (.refl s)

/-! ### The stores that E1 puts in flight (R85, R288) -/

/-- Where a result goes on, every pending store was pending in `s` or is aligned. -/
def AddsAlignedStores (s : State) (r : Result) : Prop :=
  ∀ t, r = .next t → ∀ u ∈ t.flight.pmStores, u ∈ s.flight.pmStores ∨ aligned u.size u.addr = true

section
variable {s : State}

theorem AddsAlignedStores.fault (f : Fault) : AddsAlignedStores s (.fault f) := by
  intro t h; cases h

theorem AddsAlignedStores.of_same {t : State} (h : t.flight.pmStores = s.flight.pmStores) : AddsAlignedStores s (.next t) := by
  intro v hv u hu; cases hv; exact .inl (h ▸ hu)

theorem AddsAlignedStores.issue {i : Instr} {body : Result} (h : AddsAlignedStores s body) :
    AddsAlignedStores s (issue i s body) := by
  intro t ht
  obtain ⟨-, ⟨-, rfl⟩ | ⟨-, ht⟩⟩ := issue_eq_next ht
  exacts [AddsAlignedStores.of_same rfl t rfl, h t ht]

theorem AddsAlignedStores.ite {c : Prop} [Decidable c] {q r : Result} (hq : AddsAlignedStores s q)
    (hr : AddsAlignedStores s r) : AddsAlignedStores s (if c then q else r) := by
  split <;> assumption

theorem AddsAlignedStores.putSat {side : Side} {r : RegNum} {x : Int} {d : Nat} :
    AddsAlignedStores s (.next (s.putSat side r x d)) := .of_same (by simp [State.putSat])

theorem AddsAlignedStores.putSatLong {side : Side} {r : RegNum} {x : Int} :
    AddsAlignedStores s (.next (s.putSatLong side r x)) := .of_same (by simp [State.putSatLong])

theorem AddsAlignedStores.putAddress {side : Side} {base dst : RegNum} {a : Word} {z : Access} {add : Bool} :
    AddsAlignedStores s (s.putAddress side base dst a z add) := by
  intro t h
  obtain ⟨v, -, rfl⟩ := putAddress_eq_next.1 h
  exact AddsAlignedStores.of_same (State.putWord_flight_pmStores ..) _ rfl

theorem AddsAlignedStores.branchTo {a : Word} {k : BranchKind} : AddsAlignedStores s (s.branchTo a k) := by
  intro t h
  obtain ⟨-, rfl⟩ := branchTo_eq_next.1 h
  exact AddsAlignedStores.of_same (State.pendBranch_flight_pmStores ..) _ rfl

theorem AddsAlignedStores.loadLsr {o : MemForm} {z : Access} {g : Bool} : AddsAlignedStores s (s.loadLsr o z g) := by
  intro t h
  obtain ⟨a, u, -, -, rfl⟩ := loadLsr_eq_next.1 h
  exact AddsAlignedStores.of_same (by simp) _ rfl

theorem AddsAlignedStores.load15 {o : Mem15Form} {z : Access} {g : Bool} : AddsAlignedStores s (s.load15 o z g) := by
  intro t h
  obtain ⟨-, rfl⟩ := load15_eq_next.1 h
  exact AddsAlignedStores.of_same (State.pendLoad_flight_pmStores ..) _ rfl

/-- A store at an aligned address, issued after effects that are no stores. -/
theorem AddsAlignedStores.pendStore {t : State} (ht : t.flight.pmStores = s.flight.pmStores) {a v : Word} {z : Access}
    (ha : aligned z a = true) : AddsAlignedStores s (.next (t.pendStore a z v)) := by
  intro w hw u hu
  cases hw
  rw [State.pendStore_flight_pmStores, ht, List.mem_append, List.mem_singleton] at hu
  exact hu.imp_right (by rintro rfl; exact ha)

theorem AddsAlignedStores.storeLsr {o : MemForm} {z : Access} : AddsAlignedStores s (s.storeLsr o z) := by
  intro t h
  obtain ⟨a, u, -, ha, rfl⟩ := storeLsr_eq_next.1 h
  exact AddsAlignedStores.pendStore (by simp) ha _ rfl

theorem AddsAlignedStores.store15 {o : Mem15Form} {z : Access} : AddsAlignedStores s (s.store15 o z) := by
  intro t h
  obtain ⟨ha, rfl⟩ := store15_eq_next.1 h
  exact AddsAlignedStores.pendStore rfl ha _ rfl

end

/-- E1 of a store checks its address, and no other instruction puts a store in flight. -/
theorem exec_addsAlignedStores (i : Instr) (s : State) : AddsAlignedStores s (exec i s) := by
  cases i with
  | stb | sth | stw => exact .issue .storeLsr
  | stb15 | sth15 | stw15 => exact .issue .store15
  | ldhu | ldbu | ldb | ldh | ldw | lddw => exact .issue .loadLsr
  | ldhu15 | ldbu15 | ldb15 | ldh15 | ldw15 => exact .issue .load15
  | addabReg | subabReg | addabCst | subabCst | addahReg | subahReg | addahCst | subahCst | addawReg | subawReg
  | addawCst | subawCst => exact .issue .putAddress
  | ssubCst | ssubReg | saddCst | saddReg | ssubRegX1 | sat | sshlCst | smpyh | smpyhl | smpylh | smpy =>
    exact .issue .putSat
  | ssubCstLong | saddCstLong | saddRegLong => exact .issue .putSatLong
  | sshlReg => exact .issue (.ite (.fault _) .putSat)
  | setReg | clrReg | setCst | clrCst => exact .issue (.ite (.of_same rfl) (.fault _))
  | bReg | bIrp | bNrp => exact .issue .branchTo
  | mvcWrite o =>
    refine .issue ?_
    cases ctrlDest o.cr with
    | none => exact .fault _
    | some c => exact .of_same rfl
  | nop o => exact .issue (i := .nop o) (.of_same (State.requestNop_flight_pmStores ..))
  | nop9 o => exact .issue (i := .nop9 o) (.of_same (State.requestNop_flight_pmStores ..))
  | idle o => exact .issue (i := .idle o) (.of_same (State.requestIdle_flight_pmStores ..))
  | _ => exact .issue (.of_same rfl)

/-- The memory phase performs aligned stores and leaves the others in flight at their addresses. -/
theorem memPhase_memoryInv {s t : State} (h : memPhase s = .next t) (hs : memoryInv s) : memoryInv t := by
  obtain ⟨hmem, hal⟩ := hs
  obtain ⟨-, -, -, rfl⟩ := memPhase_eq_next h
  refine ⟨performStores_wf _ _ hmem fun u hu => hal u (List.mem_filter.1 hu).1, fun u hu => ?_⟩
  obtain ⟨u', hu', rfl⟩ := List.mem_map.1 hu
  exact hal u' (List.mem_filter.1 hu').1

theorem memoryInv_keptByAccesses : KeptByAccesses memoryInv where
  congr hs _ hmem hstores := ⟨hmem ▸ hs.1, fun u hu => hs.2 u (hstores hu)⟩
  exec h hs := by
    refine ⟨?_, fun u hu => (exec_addsAlignedStores _ _ _ h u hu).elim (hs.2 u) id⟩
    obtain ⟨e, rfl, -⟩ := exec_eq_next h
    exact hs.1
  access := memPhase_memoryInv

/-- Settles O56: E1 adds aligned stores only, and the memory phase performs aligned stores. -/
theorem everyStepKeepsMemoryForm : Obligations.EveryStepKeepsMemoryForm :=
  fun _ _ hs h => memoryInv_keptByAccesses.step h hs

end Sys2Proof.Machine

/-! PROOFS. What stops a fetch (O52; R86, R92, R128, R153). -/
namespace Sys2Proof.Machine

/-- A step without reset or interrupt is a cycle of the machine (R155 step 1). -/
theorem step_of_undisturbed {s : State} (h : s.undisturbed) :
    step s = executeCycle s.input.requests (raiseFlags s.advanceEnv s.input.requests) := by
  obtain ⟨hreset, hint⟩ := h
  rw [step, cycle, hreset]
  rcases hint with hnone | hhold
  · simp [hnone]
  · simp only [hhold, if_true, Bool.false_eq_true, if_false]
    split <;> rfl

/-! Fetching depends on the parameters, memory and pc only. -/

section
variable {s t : State} (hparams : t.params = s.params) (hmem : t.mem = s.mem)
include hparams

theorem fetchable_congr (a : Nat) : t.fetchable a = s.fetchable a := by simp only [State.fetchable, hparams]

include hmem

theorem wordAt_congr (a : Nat) : t.wordAt a = s.wordAt a := by simp only [State.wordAt, hparams, hmem]

theorem crosses_congr (packet : Nat) : t.crosses packet = s.crosses packet := by
  simp only [State.crosses, fetchable_congr hparams, wordAt_congr hparams hmem]

theorem fetchFrom_congr (a n : Nat) : fetchFrom t a n = fetchFrom s a n := by
  induction n generalizing a with
  | zero => rfl
  | succ n ih => simp only [fetchFrom, fetchable_congr hparams, wordAt_congr hparams hmem, ih]

theorem fetch_congr (hpc : t.pc = s.pc) : fetch t = fetch s := by
  rw [fetch, fetch, hpc, crosses_congr hparams hmem, fetchable_congr hparams, fetchFrom_congr hparams hmem]

end

/-- A fetch that stops is a step that stops. -/
theorem step_of_fetch_error {s : State} {f : Fault} (h : s.undisturbed) (hidle : s.flight.idle = false)
    (hnop : s.flight.nopcnt = 0) (hf : fetch s = .error f) : step s = .fault f := by
  have hsame : fetch (raiseFlags s.advanceEnv s.input.requests) = fetch s := fetch_congr rfl rfl rfl
  simp [step_of_undisturbed h, executeCycle, hidle, hnop, hsame, hf]

/-- The fetch packet of an address starts at the multiple of 32 below it. -/
theorem fetchPacket_toNat (pc : Word) : (fetchPacket pc).toNat = pc.toNat / 32 * 32 := by
  have hbits : fetchPacket pc = pc >>> 5 <<< 5 := by
    apply BitVec.eq_of_getLsbD_eq
    intro j hj
    interval_cases j <;> simp [fetchPacket]
  have := pc.isLt
  rw [hbits, BitVec.toNat_shiftLeft, BitVec.toNat_ushiftRight, Nat.shiftRight_eq_div_pow, Nat.shiftLeft_eq]
  omega

/-- A word that does not decode stops the fetch of the packet that it begins. -/
theorem fetchFrom_of_reserved {s : State} {a n : Nat} {e : DecodeError} (hn : n ≠ 0) (ha : s.fetchable a = true)
    (he : decode (s.wordAt a) = .error e) : fetchFrom s a n = .error .reservedEncoding := by
  obtain ⟨n, rfl⟩ := Nat.exists_eq_succ_of_ne_zero hn
  simp [fetchFrom, ha, he]

/-- Settles O52: the stops in the order of `fetch`. -/
theorem fetchStops : Obligations.FetchStops := by
  intro s h hidle hnop
  have hstop : ∀ {f}, fetch s = .error f → step s = .fault f := step_of_fetch_error h hidle hnop
  refine ⟨fun hpc => hstop ?_, fun hpc ha => hstop ?_, fun hpc ha hc => hstop ?_, fun hpc ha hc e he => hstop ?_⟩
  · simp [fetch, hpc]
  · simp [fetch, hpc, ha]
  · simp [fetch, hpc, ha, hc]
  · have hn : ((fetchPacket s.pc).toNat + 32 - s.pc.toNat) / 4 ≠ 0 := by
      rw [fetchPacket_toNat]
      omega
    simp [fetch, hpc, ha, hc, fetchFrom_of_reserved hn ha he]

end Sys2Proof.Machine

/-! SUPPORT. The fields of any word: how they nest and join, and what a mask leaves of them. -/
namespace Sys2Proof

/-! ### Fields of a word -/

/-- A field inside a field (R9). -/
theorem field_field {w : Word} {lo n : Nat} {v : BitVec n} (h : field w lo n = v) (l m : Nat) (hlm : l + m ≤ n) :
    field w (lo + l) m = v.extractLsb' l m := by
  apply BitVec.eq_of_getLsbD_eq
  intro j hj
  simp [← h, field, hj, show l + j < n by omega, Nat.add_assoc]

/-- Two adjoining fields are one field. -/
theorem field_eq_append {w : Word} {lo m n : Nat} {x : BitVec n} {y : BitVec m} (hx : field w (lo + m) n = x)
    (hy : field w lo m = y) : field w lo (n + m) = x ++ y := by
  rw [← hx, ← hy]
  exact (BitVec.extractLsb'_append_extractLsb'_eq_extractLsb' rfl).symm

/-- Two fields read back from the field that they make up. -/
theorem fields_of_append {w : Word} {lo m n : Nat} {x : BitVec n} {y : BitVec m} (h : field w lo (n + m) = x ++ y) :
    field w (lo + m) n = x ∧ field w lo m = y :=
  ⟨(field_field h m n (by omega)).trans BitVec.extractLsb'_append_eq_left,
    (field_field h 0 m (by omega)).trans BitVec.extractLsb'_append_eq_right⟩

theorem field_zero_32 (w : Word) : field w 0 32 = w := BitVec.extractLsb'_eq_self

/-- A flag is a field of one bit. -/
theorem field_one {w : Word} {i : Nat} {b : Bool} (h : flag w i = b) : field w i 1 = bit b := by
  apply BitVec.eq_of_getLsbD_eq
  intro j hj
  interval_cases j
  simpa [field, flag] using h

/-- A bit of a field (R9). -/
theorem flag_of_field {w : Word} {lo n : Nat} {v : BitVec n} (h : field w lo n = v) (j : Nat) (hj : j < n) :
    flag w (lo + j) = v.getLsbD j := by
  simp [← h, field, flag, hj]

@[simp] theorem Side.toBit_ofBit (b : Bool) : (Side.ofBit b).toBit = b := by cases b <;> rfl

/-- A field as a number. -/
theorem field_toNat (w : Word) (lo n : Nat) : (field w lo n).toNat = w.toNat / 2 ^ lo % 2 ^ n := by
  rw [field, BitVec.extractLsb'_toNat, Nat.shiftRight_eq_div_pow]

theorem field_eq_iff {w : Word} {lo n : Nat} {v : BitVec n} :
    field w lo n = v ↔ w.toNat / 2 ^ lo % 2 ^ n = v.toNat := by
  rw [← BitVec.toNat_inj, field_toNat]

/-! ### Masks -/

/-- The mask of the field of `n` bits from bit `lo`. -/
def fieldOnes (lo n : Nat) : Word := (BitVec.allOnes n).setWidth 32 <<< lo

/-- What the mask of a field leaves of a word. -/
theorem and_fieldOnes (w : Word) (lo n : Nat) : w &&& fieldOnes lo n = (field w lo n).setWidth 32 <<< lo := by
  apply BitVec.eq_of_getLsbD_eq
  intro j hj
  simp only [fieldOnes, field, BitVec.getLsbD_and, BitVec.getLsbD_shiftLeft, BitVec.getLsbD_setWidth,
    BitVec.getLsbD_allOnes, BitVec.getLsbD_extractLsb']
  by_cases hlo : j < lo
  · simp [hlo]
  · rw [show lo + (j - lo) = j by omega]
    simp [hj, hlo, show j - lo < 32 by omega, Bool.and_comm]

/-- A word that agrees with `v` under a mask has the fields of `v` that lie in the mask. -/
theorem field_of_and_eq {w m v : Word} (h : w &&& m = v) (lo n : Nat) (hm : field m lo n = BitVec.allOnes n) :
    field w lo n = field v lo n := by
  rw [← h]
  simp only [field, BitVec.extractLsb'_and] at hm ⊢
  rw [hm, BitVec.and_allOnes]

theorem flag_of_and_eq {w m v : Word} (h : w &&& m = v) (i : Nat) (hm : flag m i = true) : flag w i = flag v i := by
  rw [flag] at hm
  simp [← h, flag, hm]

/-! ### Subfields of the NOP layout -/

theorem field_2_11_ne_zero_of {w : Word} {lo n : Nat} {v : BitVec n} (h : field w (2 + lo) n = v) (hn : lo + n ≤ 11)
    (hv : v ≠ 0) : field w 2 11 ≠ 0 := by
  intro h0
  apply hv
  rw [← h, field_field h0 lo n hn]
  simp

/-! ### Words put together from their fields -/

/-- A word with the fields of the layout of formats L, M, S and D is the word of that layout (R113-R117, R120). -/
theorem word3_eq {w : Word} {c : Cond} {d s2 s1 : BitVec 5} {x : Bool} {op : BitVec 10} {s : Side} {p : Bool}
    (hc : field w 28 4 = c.code) (hd : field w 23 5 = d) (h2 : field w 18 5 = s2) (h1 : field w 13 5 = s1)
    (hx : flag w 12 = x) (hop : field w 2 10 = op) (hs : flag w 1 = s.toBit) (hp : flag w 0 = p) :
    word3 c d s2 s1 x op s p = w := by
  have h := field_eq_append (field_eq_append (field_eq_append (field_eq_append (field_eq_append (field_eq_append
    (field_eq_append hc hd) h2) h1) (field_one hx)) hop) (field_one hs)) (field_one (i := 0) hp)
  exact h.symm.trans (field_zero_32 w)

end Sys2Proof

/-! SUPPORT. What the decoding tree of R114 can do: one inversion lemma per branching function, and its equations format by
format. -/
namespace Sys2Proof

/-! ### Codes -/

theorem condOf_eq_ok {b : BitVec 4} {c : Cond} : condOf b = .ok c ↔ b = c.code := by
  refine ⟨fun h => ?_, fun h => h ▸ condOf_code c⟩
  unfold condOf at h
  split at h <;> cases h <;> exact BitVec.eq_of_toNat_eq ‹_›

/-- Every value of `creg` and `z` that is not reserved names a condition (R160). -/
theorem exists_cond {b : BitVec 4} (h1 : b ≠ 1) (h14 : b.toNat < 14) : ∃ c : Cond, b = c.code := by
  have h1 : b.toNat ≠ 1 := fun h => h1 (BitVec.eq_of_toNat_eq h)
  cases h : condOf b with
  | ok c => exact ⟨c, condOf_eq_ok.1 h⟩
  | error e =>
    unfold condOf at h
    split at h <;> cases h
    simp only [imp_false] at *
    omega

/-- No condition has a reserved code: 000 with z = 1, or 111 (R160). -/
theorem Cond.code_not_reserved (c : Cond) : c.code ≠ 1 ∧ c.code.toNat < 14 := by
  cases c with
  | always => decide
  | ifNonzero r | ifZero r => cases r <;> decide

theorem modeOf_eq_ok {b : BitVec 4} {f : BitVec 5} {m : AddrMode} :
    modeOf b f = .ok m ↔ b = m.code ∧ f = m.offset.field := by
  refine ⟨fun h => ?_, fun ⟨hb, hf⟩ => hb ▸ hf ▸ modeOf_code m⟩
  unfold modeOf at h
  split at h <;> cases h <;> exact ⟨BitVec.eq_of_toNat_eq ‹_›, rfl⟩

/-- The reserved values of the mode field (R282). -/
abbrev reservedMode (b : BitVec 4) : Prop := b = 2 ∨ b = 3 ∨ b = 6 ∨ b = 7

/-- Every value of the mode field that is not reserved names a mode, whatever the offset (R282). -/
theorem exists_mode {b : BitVec 4} (h : ¬ reservedMode b) (f : BitVec 5) :
    ∃ m : AddrMode, b = m.code ∧ f = m.offset.field := by
  cases hm : modeOf b f with
  | ok m => exact ⟨m, modeOf_eq_ok.1 hm⟩
  | error e =>
    simp only [reservedMode, ← BitVec.toNat_inj] at h
    simp at h
    unfold modeOf at hm
    split at hm <;> cases hm
    simp only [imp_false] at *
    omega

theorem AddrMode.code_not_reserved (m : AddrMode) : ¬ reservedMode m.code := by
  have hm := modeOf_code m
  rintro (h | h | h | h) <;> rw [h] at hm <;> cases hm

/-! ### The tree -/

/-- A word that decodes is in the NOP layout, or has a condition and a format (R114, R125, R160). -/
theorem decode_eq_ok {w : Word} {i : Instr} (h : decode w = .ok i) :
    (field w 2 11 = 0 ∧ decodeNop w = .ok i) ∨
    (field w 2 11 ≠ 0 ∧ ∃ c, field w 28 4 = c.code ∧ decodeFormat w c = .ok i) := by
  unfold decode at h
  split at h
  · exact .inl ⟨‹_›, h⟩
  · split at h
    · exact .inr ⟨‹_›, _, condOf_eq_ok.1 ‹_›, h⟩
    · cases h

/-- The formats, each with its bits 6:2 and with what decodes its words (R114). -/
inductive FormatOf (w : Word) (c : Cond) : Except DecodeError Instr → Prop where
  | lsr (h : field w 2 2 = 0b01) : FormatOf w c (decodeLsr w c)
  | ls15 (h : field w 2 2 = 0b11) : FormatOf w c (decodeLs15 w c)
  | constField (h : field w 2 4 = 0b0010) : FormatOf w c (decodeField w c)
  | mvk (h : field w 2 5 = 0b01010) : FormatOf w c (.ok (.mvk (cst16Form w c)))
  | mvkh (h : field w 2 5 = 0b11010) : FormatOf w c (.ok (.mvkh (cst16Form w c)))
  | l (h : field w 2 3 = 0b110) : FormatOf w c (decodeL w c)
  | m (h : field w 2 5 = 0b00000) : FormatOf w c (decodeM w c)
  | bDisp (h : field w 2 5 = 0b00100) :
      FormatOf w c (.ok (.bDisp ⟨c, .ofBit (flag w 1), flag w 0, field w 7 21⟩))
  | s (h : field w 2 4 = 0b1000) : FormatOf w c (decodeS w c)
  | d (h : field w 2 5 = 0b10000) : FormatOf w c (decodeD w c)
  | addk (h : field w 2 5 = 0b10100) : FormatOf w c (.ok (.addk (cst16Form w c)))
  | reserved (h : field w 2 5 = 0b01100 ∨ field w 2 5 = 0b11100) : FormatOf w c (.error .reservedFormat)

/-- The decoding tree finds the format of every word. -/
theorem decodeFormat_formatOf (w : Word) (c : Cond) : FormatOf w c (decodeFormat w c) := by
  unfold decodeFormat
  split
  next h2 => exact .lsr (BitVec.eq_of_toNat_eq h2)
  next h2 => exact .ls15 (BitVec.eq_of_toNat_eq h2)
  next h2 =>
    have h2 : field w 2 2 = 2 := BitVec.eq_of_toNat_eq h2
    split
    next h4 => exact .constField (field_eq_append (BitVec.eq_of_toNat_eq (y := 0) h4) h2)
    next h4 =>
      have h4 : field w 2 4 = 0b1010 := field_eq_append (BitVec.eq_of_toNat_eq (y := 2) h4) h2
      split
      next h6 => exact .mvkh (field_eq_append (field_one (b := true) h6) h4)
      next h6 => exact .mvk (field_eq_append (field_one (b := false) (by simpa using h6)) h4)
    next h0 h1 =>
      refine .l ?_
      simp only [imp_false] at h0 h1
      simp only [field_eq_iff, field_toNat] at h0 h1 h2 ⊢
      simp at h0 h1 h2 ⊢
      omega
  next h1 h3 h2 =>
    simp only [imp_false] at h1 h3 h2
    have h0 : field w 2 2 = 0 := BitVec.eq_of_toNat_eq (by simp; omega)
    split
    next h4 => exact .m (field_eq_append (BitVec.eq_of_toNat_eq (y := 0) h4) h0)
    next h4 => exact .bDisp (field_eq_append (BitVec.eq_of_toNat_eq (y := 1) h4) h0)
    next h4 =>
      have h4 := field_field (BitVec.eq_of_toNat_eq (y := 2) h4) 0 2 (by decide)
      exact .s (field_eq_append (lo := 2) (m := 2) h4 h0)
    next h4 =>
      have h4 := field_field (BitVec.eq_of_toNat_eq (y := 6) h4) 0 2 (by decide)
      exact .s (field_eq_append (lo := 2) (m := 2) h4 h0)
    next h4 => exact .d (field_eq_append (BitVec.eq_of_toNat_eq (y := 4) h4) h0)
    next h4 => exact .addk (field_eq_append (BitVec.eq_of_toNat_eq (y := 5) h4) h0)
    next n0 n1 n2 n6 n4 n5 =>
      simp only [imp_false] at n0 n1 n2 n6 n4 n5
      have hlt := (field w 4 3).isLt
      have h37 : (field w 4 3).toNat = 3 ∨ (field w 4 3).toNat = 7 := by omega
      refine .reserved (h37.imp (fun h4 => ?_) fun h4 => ?_)
      · exact field_eq_append (BitVec.eq_of_toNat_eq (y := 3) h4) h0
      · exact field_eq_append (BitVec.eq_of_toNat_eq (y := 7) h4) h0

/-! The same as equations, for a word whose format is known. -/

section
variable {w : Word} {c : Cond}

theorem decodeFormat_l (h : field w 2 3 = 0b110) : decodeFormat w c = decodeL w c := by
  have h2 : field w 2 2 = 2 := field_field h 0 2 (by decide)
  have h4 : field w 4 2 = 1 ∨ field w 4 2 = 3 := by
    simp only [field_eq_iff] at h ⊢
    simp at h ⊢
    omega
  rcases h4 with h4 | h4 <;> rw [decodeFormat, h2, h4] <;> rfl

theorem decodeFormat_m (h : field w 2 5 = 0b00000) : decodeFormat w c = decodeM w c := by
  rw [decodeFormat, field_field h 0 2 (by decide), field_field h 2 3 (by decide)]
  rfl

theorem decodeFormat_s (h : field w 2 4 = 0b1000) : decodeFormat w c = decodeS w c := by
  have h5 : field w 2 5 = bit (flag w 6) ++ 0b1000#4 := field_eq_append (field_one rfl) h
  rw [decodeFormat, field_field h 0 2 (by decide), field_field h5 2 3 (by decide)]
  cases flag w 6 <;> rfl

theorem decodeFormat_d (h : field w 2 5 = 0b10000) : decodeFormat w c = decodeD w c := by
  rw [decodeFormat, field_field h 0 2 (by decide), field_field h 2 3 (by decide)]
  rfl

theorem decodeFormat_constField (h : field w 2 4 = 0b0010) : decodeFormat w c = decodeField w c := by
  rw [decodeFormat, field_field h 0 2 (by decide), field_field h 2 2 (by decide)]
  rfl

theorem decodeFormat_mvk (h : field w 2 5 = 0b01010) : decodeFormat w c = .ok (.mvk (cst16Form w c)) := by
  rw [decodeFormat, field_field h 0 2 (by decide), field_field h 2 2 (by decide), flag_of_field h 4 (by decide)]
  rfl

theorem decodeFormat_mvkh (h : field w 2 5 = 0b11010) : decodeFormat w c = .ok (.mvkh (cst16Form w c)) := by
  rw [decodeFormat, field_field h 0 2 (by decide), field_field h 2 2 (by decide), flag_of_field h 4 (by decide)]
  rfl

theorem decodeFormat_addk (h : field w 2 5 = 0b10100) : decodeFormat w c = .ok (.addk (cst16Form w c)) := by
  rw [decodeFormat, field_field h 0 2 (by decide), field_field h 2 3 (by decide)]
  rfl

theorem decodeFormat_bDisp (h : field w 2 5 = 0b00100) :
    decodeFormat w c = .ok (.bDisp ⟨c, .ofBit (flag w 1), flag w 0, field w 7 21⟩) := by
  rw [decodeFormat, field_field h 0 2 (by decide), field_field h 2 3 (by decide)]
  rfl

theorem decodeFormat_lsr (h : field w 2 2 = 0b01) : decodeFormat w c = decodeLsr w c := by
  rw [decodeFormat, h]
  rfl

theorem decodeFormat_ls15 (h : field w 2 2 = 0b11) : decodeFormat w c = decodeLs15 w c := by
  rw [decodeFormat, h]
  rfl

end

/-- A word of format LSR that decodes has a mode, and its `r` and `ld/st` bits name the instruction (R118, R282). -/
theorem decodeLsr_eq_ok {w : Word} {c : Cond} {i : Instr} (h : decodeLsr w c = .ok i) :
    ∃ m : AddrMode, field w 9 4 = m.code ∧ field w 13 5 = m.offset.field ∧ memInstr (flag w 8) (field w 4 3)
      ⟨c, .ofBit (flag w 1), flag w 0, .ofBit (flag w 7), field w 23 5, field w 18 5, m⟩ = .ok i := by
  unfold decodeLsr at h
  split at h
  next hm =>
    obtain ⟨hcode, hoff⟩ := modeOf_eq_ok.1 hm
    exact ⟨_, hcode, hoff, h⟩
  next => cases h

/-- With r = 1 format LSR has LDDW only (R289). -/
theorem memInstr_true_eq_ok {op : BitVec 3} {o : MemForm} {i : Instr} (h : memInstr true op o = .ok i) :
    op = 0b110 ∧ i = .lddw o := by
  unfold memInstr at h
  split at h <;> simp_all
  exact BitVec.eq_of_toNat_eq ‹_›

/-- What a word in the NOP layout can be (R125, R165, R166). -/
inductive NopOf (w : Word) : Instr → Prop where
  | idle (h : field w 13 4 = 15) : NopOf w (.idle ⟨flag w 1, flag w 0⟩)
  | nop9 (h : field w 13 4 = 8) (hs : flag w 1 = false) : NopOf w (.nop9 ⟨flag w 0⟩)
  | nop (h : (field w 13 4).toNat < 8) (hs : flag w 1 = false) : NopOf w (.nop ⟨field w 13 3, flag w 0⟩)

theorem decodeNop_eq_ok {w : Word} {i : Instr} (h : decodeNop w = .ok i) : field w 17 15 = 0 ∧ NopOf w i := by
  unfold decodeNop at h
  split at h
  next => cases h
  next h17 =>
    refine ⟨by simpa using h17, ?_⟩
    split at h
    next h13 => cases h; exact .idle (BitVec.eq_of_toNat_eq h13)
    next h13 =>
      split at h
      next => cases h
      next hs => cases h; exact .nop9 (BitVec.eq_of_toNat_eq h13) (by simpa using hs)
    next =>
      split at h
      next => cases h
      next hn =>
        simp only [not_or, not_le, Bool.not_eq_true] at hn
        cases h
        exact .nop hn.2 hn.1

end Sys2Proof

/-! PROOFS. Reserved words (O5) and words written out from the formats (O4). -/
namespace Sys2Proof

/-- Settles O4: the decoder evaluated on each word. -/
theorem decodesWrittenWords : Obligations.DecodesWrittenWords := by
  unfold Obligations.DecodesWrittenWords
  decide

/-- A word of format LSR that decodes: its mode is not reserved, and r = 1 only in LDDW. -/
theorem lsr_not_reserved {w : Word} {c : Cond} {i : Instr} (hf : decodeFormat w c = .ok i) (h : field w 2 2 = 1) :
    ¬ reservedMode (field w 9 4) ∧ (flag w 8 = true → field w 4 3 = 0b110) := by
  rw [decodeFormat_lsr h] at hf
  obtain ⟨m, hcode, -, hmem⟩ := decodeLsr_eq_ok hf
  refine ⟨hcode ▸ m.code_not_reserved, fun h8 => ?_⟩
  rw [h8] at hmem
  exact (memInstr_true_eq_ok hmem).1

/-- The two reserved values of bits 6:2 have no format. -/
theorem format_not_reserved {w : Word} {c : Cond} {i : Instr} (hf : decodeFormat w c = .ok i) :
    field w 2 5 ≠ 0b01100 ∧ field w 2 5 ≠ 0b11100 := by
  constructor <;> intro h <;> rw [decodeFormat, field_field h 0 2 (by decide), field_field h 2 3 (by decide)] at hf <;>
    cases hf

/-- Settles O5: by the layout of the word, NOP or one of the formats. -/
theorem reservedWordsAreRefused : Obligations.ReservedWordsAreRefused := by
  intro w i h
  rcases decode_eq_ok h with ⟨h0, hn⟩ | ⟨h0, c, hc, hf⟩
  · obtain ⟨h17, hnop⟩ := decodeNop_eq_ok hn
    have h5 : field w 2 5 = 0 := field_field h0 0 5 (by decide)
    have h2 : field w 2 2 = 0 := field_field h0 0 2 (by decide)
    have h18 : field w 18 14 = 0 := field_field h17 1 14 (by decide)
    simp only [h0, h5, h2, h18]
    refine ⟨by simp, by decide, by decide, by simp, by simp, fun _ => ⟨trivial, ?_⟩⟩
    cases hnop with
    | idle hsrc => exact .inr hsrc
    | nop9 hsrc => exact .inl (hsrc ▸ by decide)
    | nop hsrc => exact .inl hsrc.le
  · obtain ⟨hz, hlt⟩ := c.code_not_reserved
    have hcreg : field w 29 3 ≠ 7 := by
      rw [← hc] at hlt
      simp only [field_toNat, ne_eq, field_eq_iff] at hlt ⊢
      simp at hlt ⊢
      omega
    obtain ⟨h01100, h11100⟩ := format_not_reserved hf
    refine ⟨fun _ => ⟨hc ▸ hz, hcreg⟩, h01100, h11100, fun h2 => ?_, fun h2 => (lsr_not_reserved hf h2).2,
      fun h => absurd h h0⟩
    simpa [reservedMode] using (lsr_not_reserved hf h2).1

end Sys2Proof

/-! SUPPORT. What the decoder answers on a word whose format and op value are known, format by format (R114-R124). -/
namespace Sys2Proof

section
variable {w : Word} {c : Cond}

/-! The ten bits 11:2 give the format and the op value: `hr` is the row of the op table. -/

variable {op : BitVec 10} {r : Except DecodeError Instr}

theorem decode_l (hc : field w 28 4 = c.code) (h : field w 2 10 = op) (hl : op.extractLsb' 0 3 = 0b110)
    (hr : (field w 5 7).toNat = (op.extractLsb' 3 7).toNat → decodeL w c = r) : decode w = r := by
  have h3 : field w 2 3 = 0b110 := (field_field h 0 3 (by decide)).trans hl
  rw [decode_of_format (field_2_11_ne_zero_of (lo := 0) h3 (by decide) (by decide)) hc, decodeFormat_l h3]
  exact hr (congrArg BitVec.toNat (field_field h 3 7 (by decide)))

theorem decode_m (hc : field w 28 4 = c.code) (h : field w 2 10 = op) (hm : op.extractLsb' 0 5 = 0b00000) (h0 : op ≠ 0)
    (hr : (field w 7 5).toNat = (op.extractLsb' 5 5).toNat → decodeM w c = r) : decode w = r := by
  have h5 : field w 2 5 = 0b00000 := (field_field h 0 5 (by decide)).trans hm
  rw [decode_of_format (field_2_11_ne_zero_of (lo := 0) h (by decide) h0) hc, decodeFormat_m h5]
  exact hr (congrArg BitVec.toNat (field_field h 5 5 (by decide)))

theorem decode_s (hc : field w 28 4 = c.code) (h : field w 2 10 = op) (hs : op.extractLsb' 0 4 = 0b1000)
    (hr : (field w 6 6).toNat = (op.extractLsb' 4 6).toNat → decodeS w c = r) : decode w = r := by
  have h4 : field w 2 4 = 0b1000 := (field_field h 0 4 (by decide)).trans hs
  rw [decode_of_format (field_2_11_ne_zero_of (lo := 0) h4 (by decide) (by decide)) hc, decodeFormat_s h4]
  exact hr (congrArg BitVec.toNat (field_field h 4 6 (by decide)))

/-- In format D bit 12 is the highest of the op (R117). -/
theorem decode_d {x : Bool} (hc : field w 28 4 = c.code) (hx : flag w 12 = x) (h : field w 2 10 = op)
    (hd : op.extractLsb' 0 5 = 0b10000)
    (hr : (field w 7 6).toNat = (bit x ++ op.extractLsb' 5 5).toNat → decodeD w c = r) : decode w = r := by
  have h5 : field w 2 5 = 0b10000 := (field_field h 0 5 (by decide)).trans hd
  rw [decode_of_format (field_2_11_ne_zero_of (lo := 0) h5 (by decide) (by decide)) hc, decodeFormat_d h5]
  exact hr (congrArg BitVec.toNat (field_eq_append (lo := 7) (field_one hx) (field_field h 5 5 (by decide))))

/-! ### The checks of fields that a row gives as zero (R113, R128) -/

theorem needX0_of {i : Instr} (h : flag w 12 = false) : needX0 w i = .ok i := by rw [needX0, h]; rfl

theorem needSrc0_of {i : Instr} (h : field w 13 5 = 0) : needSrc0 w i = .ok i := if_pos h

theorem needSrcX0_of {i : Instr} (h : field w 13 5 = 0) (hx : flag w 12 = false) : needSrcX0 w i = .ok i :=
  if_pos (field_eq_append (lo := 12) (m := 1) h (field_one hx))

end

/-! ### The rows -/

/-- What the encoder and the decoder say of the row of `i`: they agree on `i`, and a word with the fixed bits of the row, a
condition and, in format LSR, a mode is the word of an instruction of the row. -/
structure Coded (i : Instr) : Prop where
  decode_encode : decode (encode i) = .ok i
  exists_encode : ∀ {w : Word} {c : Cond}, w &&& i.tableRow.1 = i.tableRow.2 → field w 28 4 = c.code →
    (field w 2 2 = 1 → ∃ m : AddrMode, field w 9 4 = m.code ∧ field w 13 5 = m.offset.field) →
    ∃ j, encode j = w ∧ j.tableRow = i.tableRow

@[simp] theorem word3_field_2_10 (c : Cond) (d s2 s1 : BitVec 5) (x : Bool) (op : BitVec 10) (s : Side) (p : Bool) :
    field (word3 c d s2 s1 x op s p) 2 10 = op :=
  (fields_of_append (word3_field_2_11 c d s2 s1 x op s p)).2

/-- A row is coded when its form has a reader: on a word with the fixed bits of the row the reader gives the operands of
which the word is made (`hword`), the decoder answers what the reader gives (`hdec`), and the word of `o` is such a word,
from which `o` is read (`hself`). -/
theorem Coded.of_reader {F : Type} {k : F → Instr} {read : Word → Cond → F} {m v : Word} {fixed : Word → Prop} {o : F}
    {a : Cond} (hrow : ∀ o, (k o).tableRow = (m, v)) (hfixed : ∀ {w}, w &&& m = v → fixed w)
    (hword : ∀ {w c}, field w 28 4 = c.code → fixed w → encode (k (read w c)) = w)
    (hdec : ∀ {w c}, field w 28 4 = c.code → fixed w → decode w = .ok (k (read w c)))
    (hself : field (encode (k o)) 28 4 = a.code ∧ fixed (encode (k o)) ∧ read (encode (k o)) a = o) : Coded (k o) where
  decode_encode := by
    obtain ⟨ha, hfix, hread⟩ := hself
    rw [hdec ha hfix, hread]
  exists_encode {w c} h hc _ := by
    rw [hrow] at h
    exact ⟨k (read w c), hword hc (hfixed h), (hrow _).trans (hrow _).symm⟩

/-! In each lemma below `henc` and `hrow` are the row in the encoder and in the table, `v` the match of the table with the
fixed fields `hv`, and `hdec` the row in the decoder. -/

section
variable {w : Word} {c : Cond} {op : BitVec 10} {x : Bool} {v : Word}

/-! #### Formats L, M, S and D -/

theorem word_xForm (hc : field w 28 4 = c.code) (h : field w 2 10 = op) : (xForm w c).word op = w :=
  word3_eq hc rfl rfl rfl rfl h (Side.toBit_ofBit _).symm rfl

theorem Coded.xForm {k : XForm → Instr} (henc : ∀ o, encode (k o) = o.word op) (hrow : ∀ o, (k o).tableRow = (0xFFC, v))
    (hv : field v 2 10 = op)
    (hdec : ∀ {w c}, field w 28 4 = c.code → field w 2 10 = op → decode w = .ok (k (xForm w c))) {o : XForm} :
    Coded (k o) :=
  .of_reader hrow (fun h => (field_of_and_eq h 2 10 rfl).trans hv) (fun hc h => (henc _).trans (word_xForm hc h)) hdec
    (a := o.cond) (by simp [henc, XForm.word, Sys2Proof.xForm])

theorem word_xCstForm (hc : field w 28 4 = c.code) (h : field w 2 10 = op) : (xCstForm w c).word op = w :=
  word3_eq hc rfl rfl rfl rfl h (Side.toBit_ofBit _).symm rfl

theorem Coded.xCstForm {k : XCstForm → Instr} (henc : ∀ o, encode (k o) = o.word op)
    (hrow : ∀ o, (k o).tableRow = (0xFFC, v)) (hv : field v 2 10 = op)
    (hdec : ∀ {w c}, field w 28 4 = c.code → field w 2 10 = op → decode w = .ok (k (xCstForm w c))) {o : XCstForm} :
    Coded (k o) :=
  .of_reader hrow (fun h => (field_of_and_eq h 2 10 rfl).trans hv) (fun hc h => (henc _).trans (word_xCstForm hc h)) hdec
    (a := o.cond) (by simp [henc, XCstForm.word, Sys2Proof.xCstForm])

/-- The mask of a row that fixes bits 12:2. -/
theorem flag_12_field_2_10_of_and (h : w &&& 0x1FFC = v) (hv : flag v 12 = x ∧ field v 2 10 = op) :
    flag w 12 = x ∧ field w 2 10 = op :=
  ⟨(flag_of_and_eq h 12 rfl).trans hv.1, (field_of_and_eq h 2 10 rfl).trans hv.2⟩

theorem word_cForm (hc : field w 28 4 = c.code) (h : flag w 12 = x ∧ field w 2 10 = op) : (cForm w c).word x op = w :=
  word3_eq hc rfl rfl rfl h.1 h.2 (Side.toBit_ofBit _).symm rfl

theorem Coded.cForm {k : CForm → Instr} (henc : ∀ o, encode (k o) = o.word x op)
    (hrow : ∀ o, (k o).tableRow = (0x1FFC, v)) (hv : flag v 12 = x ∧ field v 2 10 = op)
    (hdec : ∀ {w c}, field w 28 4 = c.code → (flag w 12 = x ∧ field w 2 10 = op) → decode w = .ok (k (cForm w c)))
    {o : CForm} : Coded (k o) :=
  .of_reader hrow (fun h => flag_12_field_2_10_of_and h hv) (fun hc h => (henc _).trans (word_cForm hc h)) hdec
    (a := o.cond) (by simp [henc, CForm.word, Sys2Proof.cForm])

theorem word_rForm (hc : field w 28 4 = c.code) (h : flag w 12 = x ∧ field w 2 10 = op) : (rForm w c).word x op = w :=
  word3_eq hc rfl rfl rfl h.1 h.2 (Side.toBit_ofBit _).symm rfl

theorem Coded.rForm {k : RForm → Instr} (henc : ∀ o, encode (k o) = o.word x op)
    (hrow : ∀ o, (k o).tableRow = (0x1FFC, v)) (hv : flag v 12 = x ∧ field v 2 10 = op)
    (hdec : ∀ {w c}, field w 28 4 = c.code → (flag w 12 = x ∧ field w 2 10 = op) → decode w = .ok (k (rForm w c)))
    {o : RForm} : Coded (k o) :=
  .of_reader hrow (fun h => flag_12_field_2_10_of_and h hv) (fun hc h => (henc _).trans (word_rForm hc h)) hdec
    (a := o.cond) (by simp [henc, RForm.word, Sys2Proof.rForm])

theorem word_xUnForm (hc : field w 28 4 = c.code) (h : field w 13 5 = 0 ∧ field w 2 10 = op) : (xUnForm w c).word op = w :=
  word3_eq hc rfl rfl h.1 rfl h.2 (Side.toBit_ofBit _).symm rfl

theorem Coded.xUnForm {k : XUnForm → Instr} (henc : ∀ o, encode (k o) = o.word op)
    (hrow : ∀ o, (k o).tableRow = (0x3EFFC, v)) (hv : field v 13 5 = 0 ∧ field v 2 10 = op)
    (hdec : ∀ {w c}, field w 28 4 = c.code → (field w 13 5 = 0 ∧ field w 2 10 = op) → decode w = .ok (k (xUnForm w c)))
    {o : XUnForm} : Coded (k o) :=
  .of_reader hrow (fun h => ⟨(field_of_and_eq h 13 5 rfl).trans hv.1, (field_of_and_eq h 2 10 rfl).trans hv.2⟩)
    (fun hc h => (henc _).trans (word_xUnForm hc h)) hdec
    (a := o.cond) (by simp [henc, XUnForm.word, Sys2Proof.xUnForm])

theorem word_unForm (hc : field w 28 4 = c.code) (hs : field w 13 5 = 0) (hx : flag w 12 = false)
    (h : field w 2 10 = op) : (unForm w c).word op = w :=
  word3_eq hc rfl rfl hs hx h (Side.toBit_ofBit _).symm rfl

theorem Coded.unForm {k : UnForm → Instr} (henc : ∀ o, encode (k o) = o.word op)
    (hrow : ∀ o, (k o).tableRow = (0x3FFFC, v)) (hv : field v 13 5 = 0 ∧ flag v 12 = false ∧ field v 2 10 = op)
    (hdec : ∀ {w c}, field w 28 4 = c.code → (field w 13 5 = 0 ∧ flag w 12 = false ∧ field w 2 10 = op) →
      decode w = .ok (k (unForm w c))) {o : UnForm} : Coded (k o) :=
  have ⟨hvs, hvx, hvop⟩ := hv
  .of_reader hrow (fun h => ⟨(field_of_and_eq h 13 5 rfl).trans hvs, (flag_of_and_eq h 12 rfl).trans hvx,
      (field_of_and_eq h 2 10 rfl).trans hvop⟩)
    (fun hc ⟨hs, hx, h⟩ => (henc _).trans (word_unForm hc hs hx h)) hdec
    (a := o.cond) (by simp [henc, UnForm.word, Sys2Proof.unForm])

end
section
variable {w : Word} {c : Cond} {v : Word}

/-! #### Formats FIELD, ADDK, MVK and BDISP -/

theorem fieldWord_field_2_4 (o : FieldForm) (op : BitVec 2) : field (o.word op) 2 4 = 0b0010 :=
  field_eq_append (fieldWord_field_4_2 o op) (fieldWord_field_2_2 o op)

theorem FieldForm.word_eq {o : FieldForm} {op : BitVec 2} (hc : field w 28 4 = o.cond.code) (hd : field w 23 5 = o.dst)
    (h2 : field w 18 5 = o.src2) (ha : field w 13 5 = o.csta) (hb : field w 8 5 = o.cstb) (hop : field w 6 2 = op)
    (h : field w 2 4 = 0b0010) (hs : flag w 1 = o.side.toBit) (hp : flag w 0 = o.p) : o.word op = w := by
  have hw := field_eq_append (field_eq_append (field_eq_append (field_eq_append (field_eq_append (field_eq_append
    (field_eq_append (field_eq_append hc hd) h2) ha) hb) hop) h) (field_one hs)) (field_one (i := 0) hp)
  exact hw.symm.trans (field_zero_32 w)

theorem word_fieldForm {op : BitVec 2} (hc : field w 28 4 = c.code) (hop : field w 6 2 = op) (h : field w 2 4 = 0b0010) :
    (fieldForm w c).word op = w :=
  FieldForm.word_eq hc rfl rfl rfl rfl hop h (Side.toBit_ofBit _).symm rfl

theorem Coded.fieldForm {k : FieldForm → Instr} {op : BitVec 2} (henc : ∀ o, encode (k o) = o.word op)
    (hrow : ∀ o, (k o).tableRow = (0xFC, v)) (hv : field v 6 2 = op ∧ field v 2 4 = 0b0010)
    (hdec : ∀ {w c}, (field w 6 2).toNat = op.toNat → decodeField w c = .ok (k (fieldForm w c))) {o : FieldForm} :
    Coded (k o) :=
  .of_reader (fixed := fun w => field w 6 2 = op ∧ field w 2 4 = 0b0010) hrow
    (fun h => ⟨(field_of_and_eq h 6 2 rfl).trans hv.1, (field_of_and_eq h 2 4 rfl).trans hv.2⟩)
    (fun hc ⟨hop, h⟩ => (henc _).trans (word_fieldForm hc hop h))
    (fun hc ⟨hop, h⟩ => by
      rw [decode_of_format (field_2_11_ne_zero_of (lo := 0) h (by decide) (by decide)) hc, decodeFormat_constField h]
      exact hdec (congrArg BitVec.toNat hop))
    (a := o.cond) (by simp [henc, fieldWord_field_2_4, Sys2Proof.fieldForm])

theorem cst16Word_field_2_5 (o : Cst16Form) (l : BitVec 5) : field (o.word l) 2 5 = l := by
  apply BitVec.eq_of_getLsbD_eq
  intro i hi
  interval_cases i <;> (simp only [field, Cst16Form.word, BitVec.getLsbD_extractLsb', BitVec.getLsbD_append]; simp)

theorem Cst16Form.word_eq {o : Cst16Form} {low : BitVec 5} (hc : field w 28 4 = o.cond.code) (hd : field w 23 5 = o.dst)
    (hk : field w 7 16 = o.cst) (h : field w 2 5 = low) (hs : flag w 1 = o.side.toBit) (hp : flag w 0 = o.p) :
    o.word low = w := by
  have hw := field_eq_append (field_eq_append (field_eq_append (field_eq_append (field_eq_append hc hd) hk) h)
    (field_one hs)) (field_one (i := 0) hp)
  exact hw.symm.trans (field_zero_32 w)

theorem word_cst16Form {low : BitVec 5} (hc : field w 28 4 = c.code) (h : field w 2 5 = low) :
    (cst16Form w c).word low = w :=
  Cst16Form.word_eq hc rfl rfl h (Side.toBit_ofBit _).symm rfl

theorem Coded.cst16Form {k : Cst16Form → Instr} {low : BitVec 5} (henc : ∀ o, encode (k o) = o.word low)
    (hrow : ∀ o, (k o).tableRow = (0x7C, v)) (hv : field v 2 5 = low) (hlow : low ≠ 0)
    (hdec : ∀ {w c}, field w 2 5 = low → decodeFormat w c = .ok (k (cst16Form w c))) {o : Cst16Form} : Coded (k o) :=
  .of_reader hrow (fun h => (field_of_and_eq h 2 5 rfl).trans hv) (fun hc h => (henc _).trans (word_cst16Form hc h))
    (fun hc h => (decode_of_format (field_2_11_ne_zero_of (lo := 0) h (by decide) hlow) hc).trans (hdec h))
    (a := o.cond) (by simp [henc, cst16Word_field_2_5, Sys2Proof.cst16Form])

/-- The fields of a BDISP word (R124). -/
def dispForm (w : Word) (c : Cond) : DispForm := ⟨c, .ofBit (flag w 1), flag w 0, field w 7 21⟩

theorem bDisp_field_2_5 (o : DispForm) : field (encode (.bDisp o)) 2 5 = 0b00100 :=
  field_eq_append (bDisp_field_4_3 o) (bDisp_field_2_2 o)

theorem encode_bDisp_eq {o : DispForm} (hc : field w 28 4 = o.cond.code) (hk : field w 7 21 = o.cst)
    (h : field w 2 5 = 0b00100) (hs : flag w 1 = o.side.toBit) (hp : flag w 0 = o.p) : encode (.bDisp o) = w := by
  have hw := field_eq_append (field_eq_append (field_eq_append (field_eq_append hc hk) h) (field_one hs))
    (field_one (i := 0) hp)
  exact hw.symm.trans (field_zero_32 w)

theorem Coded.bDisp (o : DispForm) : Coded (.bDisp o) :=
  .of_reader (read := dispForm) (fixed := fun w => field w 2 5 = 0b00100) (fun _ => rfl) (fun h => field_of_and_eq h 2 5 rfl)
    (fun hc h => encode_bDisp_eq hc rfl h (Side.toBit_ofBit _).symm rfl)
    (fun hc h => (decode_of_format (field_2_11_ne_zero_of (lo := 0) h (by decide) (by decide)) hc).trans
      (decodeFormat_bDisp h))
    (a := o.cond) (by simp [bDisp_field_2_5, dispForm])

/-! #### Formats LSR and LS15 -/

theorem Mem15Form.word_eq {o : Mem15Form} {op : BitVec 3} (hc : field w 28 4 = o.cond.code) (hd : field w 23 5 = o.data)
    (hk : field w 8 15 = o.off) (hy : flag w 7 = o.y) (hop : field w 4 3 = op) (h : field w 2 2 = 0b11)
    (hs : flag w 1 = o.side.toBit) (hp : flag w 0 = o.p) : o.word op = w := by
  have hw := field_eq_append (field_eq_append (field_eq_append (field_eq_append (field_eq_append (field_eq_append
    (field_eq_append hc hd) hk) (field_one hy)) hop) h) (field_one hs)) (field_one (i := 0) hp)
  exact hw.symm.trans (field_zero_32 w)

theorem word_mem15Form {op : BitVec 3} (hc : field w 28 4 = c.code) (hop : field w 4 3 = op) (h : field w 2 2 = 0b11) :
    (mem15Form w c).word op = w :=
  Mem15Form.word_eq hc rfl rfl rfl hop h (Side.toBit_ofBit _).symm rfl

theorem Coded.mem15Form {k : Mem15Form → Instr} {op : BitVec 3} (henc : ∀ o, encode (k o) = o.word op)
    (hrow : ∀ o, (k o).tableRow = (0x7C, v)) (hv : field v 4 3 = op ∧ field v 2 2 = 0b11)
    (hdec : ∀ {w c}, (field w 4 3).toNat = op.toNat → decodeLs15 w c = .ok (k (mem15Form w c))) {o : Mem15Form} :
    Coded (k o) :=
  .of_reader (fixed := fun w => field w 4 3 = op ∧ field w 2 2 = 0b11) hrow
    (fun h => ⟨(field_of_and_eq h 4 3 rfl).trans hv.1, (field_of_and_eq h 2 2 rfl).trans hv.2⟩)
    (fun hc ⟨hop, h⟩ => (henc _).trans (word_mem15Form hc hop h))
    (fun hc ⟨hop, h⟩ => by
      rw [decode_of_format (field_2_11_ne_zero_of (lo := 0) h (by decide) (by decide)) hc, decodeFormat_ls15 h]
      exact hdec (congrArg BitVec.toNat hop))
    (a := o.cond) (by simp [henc, Sys2Proof.mem15Form])

/-- The fields of a format LSR word with the mode `m` (R118). -/
def memForm (w : Word) (c : Cond) (m : AddrMode) : MemForm :=
  ⟨c, .ofBit (flag w 1), flag w 0, .ofBit (flag w 7), field w 23 5, field w 18 5, m⟩

theorem MemForm.word_eq {o : MemForm} {r : Bool} {op : BitVec 3} (hc : field w 28 4 = o.cond.code)
    (hd : field w 23 5 = o.data) (hb : field w 18 5 = o.base) (ho : field w 13 5 = o.mode.offset.field)
    (hm : field w 9 4 = o.mode.code) (hr : flag w 8 = r) (hy : flag w 7 = o.y.toBit) (hop : field w 4 3 = op)
    (h : field w 2 2 = 0b01) (hs : flag w 1 = o.side.toBit) (hp : flag w 0 = o.p) : o.word r op = w := by
  have hw := field_eq_append (field_eq_append (field_eq_append (field_eq_append (field_eq_append (field_eq_append
    (field_eq_append (field_eq_append (field_eq_append (field_eq_append hc hd) hb) ho) hm) (field_one hr)) (field_one hy))
    hop) h) (field_one hs)) (field_one (i := 0) hp)
  exact hw.symm.trans (field_zero_32 w)

theorem word_memForm {m : AddrMode} {r : Bool} {op : BitVec 3} (hc : field w 28 4 = c.code)
    (hm : field w 9 4 = m.code ∧ field w 13 5 = m.offset.field) (hr : flag w 8 = r) (hop : field w 4 3 = op)
    (h : field w 2 2 = 0b01) : (memForm w c m).word r op = w :=
  MemForm.word_eq hc rfl rfl hm.2 hm.1 hr (Side.toBit_ofBit _).symm hop h (Side.toBit_ofBit _).symm rfl

/-- What the decoder answers on a word of format LSR (R118, R282, R289). -/
theorem decode_lsr {m : AddrMode} (hc : field w 28 4 = c.code) (hm : field w 9 4 = m.code ∧ field w 13 5 = m.offset.field)
    (h : field w 2 2 = 0b01) : decode w = memInstr (flag w 8) (field w 4 3) (memForm w c m) := by
  rw [decode_of_format (field_2_11_ne_zero_of (lo := 0) h (by decide) (by decide)) hc, decodeFormat_lsr h, decodeLsr,
    modeOf_eq_ok.2 hm]
  rfl

theorem Coded.memForm {k : MemForm → Instr} {r : Bool} {op : BitVec 3} (henc : ∀ o, encode (k o) = o.word r op)
    (hrow : ∀ o, (k o).tableRow = (0x17C, v)) (hv : flag v 8 = r ∧ field v 4 3 = op ∧ field v 2 2 = 0b01)
    (hdec : ∀ o, memInstr r op o = .ok (k o)) {o : MemForm} : Coded (k o) where
  decode_encode := by
    rw [henc, decode_lsr (m := o.mode) (c := o.cond) (by simp) (by simp) (by simp)]
    simp [hdec, Sys2Proof.memForm]
  exists_encode {w c} h hc hmode := by
    simp only [hrow] at h
    obtain ⟨hvr, hvop, hv01⟩ := hv
    have h01 := (field_of_and_eq h 2 2 rfl).trans hv01
    obtain ⟨m, hm⟩ := hmode h01
    have hw := word_memForm hc hm ((flag_of_and_eq h 8 rfl).trans hvr) ((field_of_and_eq h 4 3 rfl).trans hvop) h01
    exact ⟨k (Sys2Proof.memForm w c m), (henc _).trans hw, (hrow _).trans (hrow _).symm⟩

end
section
variable {w : Word} {c : Cond}

/-! #### The instructions of .S2 only -/

theorem Coded.bReg (o : BRegForm) : Coded (.bReg o) :=
  .of_reader (read := fun w c => ⟨c, flag w 0, field w 18 5, flag w 12⟩)
    (fixed := fun w => field w 23 5 = 0 ∧ field w 13 5 = 0 ∧ field w 2 10 = 0b0011011000 ∧ flag w 1 = true)
    (fun _ => rfl)
    (fun h => ⟨field_of_and_eq h 23 5 rfl, field_of_and_eq h 13 5 rfl, field_of_and_eq h 2 10 rfl, flag_of_and_eq h 1 rfl⟩)
    (fun hc ⟨hd, h1, hop, hs⟩ => word3_eq hc hd rfl h1 rfl hop hs rfl)
    (fun hc ⟨hd, h1, hop, hs⟩ => decode_s hc hop rfl fun h => by
      rw [decodeS, h]
      exact if_pos ⟨hs, hd, h1⟩)
    (a := o.cond) (by simp [encode])

theorem Coded.mvcRead (o : MvcReadForm) : Coded (.mvcRead o) :=
  .of_reader (read := fun w c => ⟨c, flag w 0, field w 23 5, field w 18 5⟩)
    (fixed := fun w => field w 13 5 = 0 ∧ flag w 12 = false ∧ field w 2 10 = 0b0011111000 ∧ flag w 1 = true)
    (fun _ => rfl)
    (fun h => ⟨field_of_and_eq h 13 5 rfl, flag_of_and_eq h 12 rfl, field_of_and_eq h 2 10 rfl, flag_of_and_eq h 1 rfl⟩)
    (fun hc ⟨h1, hx, hop, hs⟩ => word3_eq hc rfl rfl h1 hx hop hs rfl)
    (fun hc ⟨h1, hx, hop, hs⟩ => decode_s hc hop rfl fun h => by
      rw [decodeS, h]
      exact if_pos ⟨hs, field_eq_append (lo := 12) (m := 1) h1 (field_one hx)⟩)
    (a := o.cond) (by simp [encode])

theorem Coded.mvcWrite (o : MvcWriteForm) : Coded (.mvcWrite o) :=
  .of_reader (read := fun w c => ⟨c, flag w 0, field w 23 5, field w 18 5, flag w 12⟩)
    (fixed := fun w => field w 13 5 = 0 ∧ field w 2 10 = 0b0011101000 ∧ flag w 1 = true)
    (fun _ => rfl)
    (fun h => ⟨field_of_and_eq h 13 5 rfl, field_of_and_eq h 2 10 rfl, flag_of_and_eq h 1 rfl⟩)
    (fun hc ⟨h1, hop, hs⟩ => word3_eq hc rfl rfl h1 rfl hop hs rfl)
    (fun hc ⟨h1, hop, hs⟩ => decode_s hc hop rfl fun h => by
      rw [decodeS, h]
      exact if_pos ⟨hs, h1⟩)
    (a := o.cond) (by simp [encode])

/-- The fixed bits of B IRP and B NRP, `n` the number of the control register in the src2 field (R216, R217). -/
structure ReturnWord (n : BitVec 5) (w : Word) : Prop where
  dst : field w 23 5 = 0
  src2 : field w 18 5 = n
  src1 : field w 13 5 = 0
  x : flag w 12 = false
  op : field w 2 10 = 0b0000111000
  s : flag w 1 = true

theorem returnWord_of_and_eq {n : BitVec 5} {v : Word} (h : w &&& 0x0FFFFFFE = v) (hv : ReturnWord n v) :
    ReturnWord n w where
  dst := (field_of_and_eq h 23 5 rfl).trans hv.dst
  src2 := (field_of_and_eq h 18 5 rfl).trans hv.src2
  src1 := (field_of_and_eq h 13 5 rfl).trans hv.src1
  x := (flag_of_and_eq h 12 rfl).trans hv.x
  op := (field_of_and_eq h 2 10 rfl).trans hv.op
  s := (flag_of_and_eq h 1 rfl).trans hv.s

theorem Coded.returnForm {k : CondForm → Instr} {n : BitVec 5} {v : Word}
    (henc : ∀ o, encode (k o) = word3 o.cond 0 n 0 false 0b0000111000 .b o.p)
    (hrow : ∀ o, (k o).tableRow = (0x0FFFFFFE, v)) (hv : ReturnWord n v)
    (hdec : ∀ {w c}, ReturnWord n w → decodeReturn w c = .ok (k ⟨c, flag w 0⟩)) {o : CondForm} : Coded (k o) :=
  .of_reader (read := fun w c => ⟨c, flag w 0⟩) hrow (fun h => returnWord_of_and_eq h hv)
    (fun hc h => (henc _).trans (word3_eq hc h.dst h.src2 h.src1 h.x h.op h.s rfl))
    (fun hc h => decode_s hc h.op rfl fun h' => by
      rw [decodeS, h']
      exact hdec h)
    (a := o.cond) (by
      rw [henc]
      exact ⟨by simp, ⟨by simp, by simp, by simp, by simp, by simp, by simp⟩, by simp⟩)

theorem ReturnWord.zero_fields {n : BitVec 5} (h : ReturnWord n w) : field w 23 5 = 0 ∧ field w 12 6 = 0 :=
  ⟨h.dst, field_eq_append (lo := 12) (m := 1) h.src1 (field_one h.x)⟩

theorem decodeReturn_irp (h : ReturnWord 0b00110 w) : decodeReturn w c = .ok (.bIrp ⟨c, flag w 0⟩) := by
  rw [decodeReturn, if_neg (by simp [h.s]), if_pos h.zero_fields, h.src2]
  rfl

theorem decodeReturn_nrp (h : ReturnWord 0b00111 w) : decodeReturn w c = .ok (.bNrp ⟨c, flag w 0⟩) := by
  rw [decodeReturn, if_neg (by simp [h.s]), if_pos h.zero_fields, h.src2]
  rfl

theorem Coded.bIrp (o : CondForm) : Coded (.bIrp o) :=
  .returnForm (n := 0b00110) (fun _ => rfl) (fun _ => rfl) ⟨rfl, rfl, rfl, rfl, rfl, rfl⟩ decodeReturn_irp

theorem Coded.bNrp (o : CondForm) : Coded (.bNrp o) :=
  .returnForm (n := 0b00111) (fun _ => rfl) (fun _ => rfl) ⟨rfl, rfl, rfl, rfl, rfl, rfl⟩ decodeReturn_nrp

/-! #### Formats NOP and IDLE -/

theorem decode_nopLayout (h : field w 2 11 = 0) : decode w = decodeNop w := if_pos h

/-- Which fields of the NOP layout hold what (R125, R165): bits 31:18 are zero, the count is in bits 16:13. -/
theorem decodeNop_nop (h16 : field w 16 16 = 0) (hs : flag w 1 = false) :
    decodeNop w = .ok (.nop ⟨field w 13 3, flag w 0⟩) := by
  have h17 : field w 17 15 = 0 := field_field h16 1 15 (by decide)
  have hsrc : (field w 13 4).toNat < 8 := by
    simp only [field_eq_iff, field_toNat] at h16 ⊢
    simp at h16 ⊢
    omega
  rw [decodeNop, if_neg (by simpa using h17)]
  split
  next h15 => omega
  next h8 => omega
  next => rw [if_neg (by simp [hs, hsrc])]

theorem Coded.nop (o : NopForm) : Coded (.nop o) :=
  .of_reader (read := fun w _ => ⟨field w 13 3, flag w 0⟩) (fixed := fun w => field w 16 16 = 0 ∧ field w 1 12 = 0)
    (fun _ => rfl) (fun h => ⟨field_of_and_eq h 16 16 rfl, field_of_and_eq h 1 12 rfl⟩)
    (fun _ ⟨h16, h1⟩ => by
      have hw := field_eq_append (field_eq_append (field_eq_append (lo := 13) (m := 3) h16 rfl) h1)
        (field_one (i := 0) rfl)
      exact hw.symm.trans (field_zero_32 _))
    (fun _ ⟨h16, h1⟩ => (decode_nopLayout (field_field h1 1 11 (by decide))).trans
      (decodeNop_nop h16 (flag_of_field h1 0 (by decide))))
    (a := .always) (by
      have hw : field (encode (.nop o)) 0 (16 + 3 + 12 + 1) = 0#16 ++ o.src ++ 0#12 ++ bit o.p := field_zero_32 _
      obtain ⟨hw, hp⟩ := fields_of_append hw
      obtain ⟨hw, h1⟩ := fields_of_append hw
      obtain ⟨h16, hsrc⟩ := fields_of_append hw
      have hp : flag (encode (.nop o)) 0 = o.p := (flag_of_field hp 0 (by decide)).trans (by simp)
      refine ⟨field_field h16 12 4 (by decide), ⟨h16, h1⟩, ?_⟩
      rw [hp]
      exact congrArg (NopForm.mk · o.p) hsrc)

theorem decodeNop_nop9 (h16 : field w 16 16 = 1) (h13 : field w 13 3 = 0) (hs : flag w 1 = false) :
    decodeNop w = .ok (.nop9 ⟨flag w 0⟩) := by
  have h17 : field w 17 15 = 0 := field_field h16 1 15 (by decide)
  have hsrc : field w 13 4 = 8 := field_eq_append (lo := 13) (m := 3) (field_field h16 0 1 (by decide)) h13
  rw [decodeNop, if_neg (by simpa using h17), hsrc]
  exact if_neg (by simp [hs])

theorem Coded.nop9 (o : Nop9Form) : Coded (.nop9 o) :=
  .of_reader (read := fun w _ => ⟨flag w 0⟩) (fixed := fun w => field w 16 16 = 1 ∧ field w 1 15 = 0)
    (fun _ => rfl) (fun h => ⟨field_of_and_eq h 16 16 rfl, field_of_and_eq h 1 15 rfl⟩)
    (fun _ ⟨h16, h1⟩ => by
      have hw := field_eq_append (field_eq_append h16 h1) (field_one (i := 0) rfl)
      exact hw.symm.trans (field_zero_32 _))
    (fun _ ⟨h16, h1⟩ => (decode_nopLayout (field_field h1 1 11 (by decide))).trans
      (decodeNop_nop9 h16 (field_field h1 12 3 (by decide)) (flag_of_field h1 0 (by decide))))
    (a := .always) (by
      have hw : field (encode (.nop9 o)) 0 (16 + 15 + 1) = 1#16 ++ 0#15 ++ bit o.p := field_zero_32 _
      obtain ⟨hw, hp⟩ := fields_of_append hw
      obtain ⟨h16, h1⟩ := fields_of_append hw
      have hp : flag (encode (.nop9 o)) 0 = o.p := (flag_of_field hp 0 (by decide)).trans (by simp)
      exact ⟨field_field h16 12 4 (by decide), ⟨h16, h1⟩, congrArg Nop9Form.mk hp⟩)

theorem decodeNop_idle (h18 : field w 18 14 = 0) (h13 : field w 13 5 = 0b01111) :
    decodeNop w = .ok (.idle ⟨flag w 1, flag w 0⟩) := by
  have h17 : field w 17 15 = 0 := field_eq_append h18 (field_field h13 4 1 (by decide))
  rw [decodeNop, if_neg (by simpa using h17), field_field h13 0 4 (by decide)]
  rfl

theorem Coded.idle (o : IdleForm) : Coded (.idle o) :=
  .of_reader (read := fun w _ => ⟨flag w 1, flag w 0⟩)
    (fixed := fun w => field w 18 14 = 0 ∧ field w 13 5 = 0b01111 ∧ field w 2 11 = 0)
    (fun _ => rfl) (fun h => ⟨field_of_and_eq h 18 14 rfl, field_of_and_eq h 13 5 rfl, field_of_and_eq h 2 11 rfl⟩)
    (fun _ ⟨h18, h13, h2⟩ => by
      have hw := field_eq_append (field_eq_append (field_eq_append (field_eq_append h18 h13) h2) (field_one rfl))
        (field_one (i := 0) rfl)
      exact hw.symm.trans (field_zero_32 _))
    (fun _ ⟨h18, h13, h2⟩ => (decode_nopLayout h2).trans (decodeNop_idle h18 h13))
    (a := .always) (by
      have hw : field (encode (.idle o)) 0 (14 + 5 + 11 + 1 + 1) = 0#14 ++ 0b01111#5 ++ 0#11 ++ bit o.s ++ bit o.p :=
        field_zero_32 _
      obtain ⟨hw, hp⟩ := fields_of_append hw
      obtain ⟨hw, hs⟩ := fields_of_append hw
      obtain ⟨hw, h2⟩ := fields_of_append hw
      obtain ⟨h18, h13⟩ := fields_of_append hw
      have hp : flag (encode (.idle o)) 0 = o.p := (flag_of_field hp 0 (by decide)).trans (by simp)
      have hs : flag (encode (.idle o)) 1 = o.s := (flag_of_field hs 0 (by decide)).trans (by simp)
      refine ⟨field_field h18 10 4 (by decide), ⟨h18, h13, h2⟩, ?_⟩
      rw [hp, hs])

end

/-! #### All rows -/

/-- Every row of the opcode table is coded: the rows of format L, then S, M, D and the others, form by form. In each `exacts`
stand the row in the encoder, in the table, the fixed fields of its match, and the row in the decoder. -/
theorem coded (i : Instr) : Coded i := by
  cases i with
  | addLReg | subLReg | ssubReg | saddReg | subLRegX1 | ssubRegX1 | addLRegLong | addLWide | subLWide
  | adduRegLong | adduWide | subuWide | saddRegLong | subLWideX1 | subuWideX1 | cmpgtRegLong | cmpgtReg | subc
  | cmpgtuRegLong | cmpgtuReg | cmpeqRegLong | cmpeqReg | cmpltRegLong | cmpltReg | cmpltuRegLong | cmpltuReg
  | lmbdReg | xorLReg | andLReg | orLReg =>
    apply Coded.xForm
    exacts [fun _ => rfl, fun _ => rfl, rfl, fun hc h => decode_l hc h rfl fun h => by rw [decodeL, h]; rfl]
  | addLCst | subLCst | ssubCst | saddCst | cmpgtCst | cmpgtuCst | cmpeqCst | cmpltCst | cmpltuCst | lmbdCst
  | xorLCst | andLCst | orLCst =>
    apply Coded.xCstForm
    exacts [fun _ => rfl, fun _ => rfl, rfl, fun hc h => decode_l hc h rfl fun h => by rw [decodeL, h]; rfl]
  | addLCstLong | subLCstLong | ssubCstLong | saddCstLong | cmpgtCstLong | cmpgtuCstLong | cmpeqCstLong
  | cmpltCstLong | cmpltuCstLong =>
    apply Coded.cForm
    exacts [fun _ => rfl, fun _ => rfl, ⟨rfl, rfl⟩,
      fun hc ⟨hx, h⟩ => (decode_l hc h rfl fun h => by rw [decodeL, h]; rfl).trans (needX0_of hx)]
  | absWord | normWord =>
    apply Coded.xUnForm
    exacts [fun _ => rfl, fun _ => rfl, ⟨rfl, rfl⟩,
      fun hc ⟨hs, h⟩ => (decode_l hc h rfl fun h => by rw [decodeL, h]; rfl).trans (needSrc0_of hs)]
  | absLong | sat | normLong =>
    apply Coded.unForm
    exacts [fun _ => rfl, fun _ => rfl, ⟨rfl, rfl, rfl⟩,
      fun hc ⟨hs, hx, h⟩ => (decode_l hc h rfl fun h => by rw [decodeL, h]; rfl).trans (needSrcX0_of hs hx)]
  | add2 | addSReg | xorSReg | sub2 | shlRegWide | subSReg | orSReg | andSReg | sshlReg | shruReg | extuReg
  | extReg | shlReg | shrReg | setReg | clrReg =>
    apply Coded.xForm
    exacts [fun _ => rfl, fun _ => rfl, rfl, fun hc h => decode_s hc h rfl fun h => by rw [decodeS, h]; rfl]
  | addSCst | xorSCst | shlCstWide | subSCst | orSCst | andSCst | sshlCst | shruCst | shlCst | shrCst =>
    apply Coded.xCstForm
    exacts [fun _ => rfl, fun _ => rfl, rfl, fun hc h => decode_s hc h rfl fun h => by rw [decodeS, h]; rfl]
  | shruCstLong | shlCstLong | shrCstLong =>
    apply Coded.cForm
    exacts [fun _ => rfl, fun _ => rfl, ⟨rfl, rfl⟩,
      fun hc ⟨hx, h⟩ => (decode_s hc h rfl fun h => by rw [decodeS, h]; rfl).trans (needX0_of hx)]
  | shruRegLong | shlRegLong | shrRegLong =>
    apply Coded.rForm
    exacts [fun _ => rfl, fun _ => rfl, ⟨rfl, rfl⟩,
      fun hc ⟨hx, h⟩ => (decode_s hc h rfl fun h => by rw [decodeS, h]; rfl).trans (needX0_of hx)]
  | mpyh | smpyh | mpyhsu | mpyhus | mpyhu | mpyhl | smpyhl | mpyhslu | mpyhuls | mpyhlu | mpylh | smpylh
  | mpylshu | mpyluhs | mpylhu | mpyReg | smpy | mpysuReg | mpyus | mpyu =>
    apply Coded.xForm
    exacts [fun _ => rfl, fun _ => rfl, rfl, fun hc h => decode_m hc h rfl (by decide) fun h => by rw [decodeM, h]; rfl]
  | mpyCst | mpysuCst =>
    apply Coded.xCstForm
    exacts [fun _ => rfl, fun _ => rfl, rfl, fun hc h => decode_m hc h rfl (by decide) fun h => by rw [decodeM, h]; rfl]
  | addDReg | subDReg | addabReg | subabReg | addahReg | subahReg | addawReg | subawReg =>
    apply Coded.rForm
    exacts [fun _ => rfl, fun _ => rfl, ⟨rfl, rfl⟩,
      fun hc ⟨hx, h⟩ => decode_d hc hx h rfl fun h => by rw [decodeD, h]; rfl]
  | addDCst | subDCst | addabCst | subabCst | addahCst | subahCst | addawCst | subawCst =>
    apply Coded.cForm
    exacts [fun _ => rfl, fun _ => rfl, ⟨rfl, rfl⟩,
      fun hc ⟨hx, h⟩ => decode_d hc hx h rfl fun h => by rw [decodeD, h]; rfl]
  | extuCst | extCst | setCst | clrCst =>
    apply Coded.fieldForm
    exacts [fun _ => rfl, fun _ => rfl, ⟨rfl, rfl⟩, fun h => by rw [decodeField, h]; rfl]
  | mvk =>
    apply Coded.cst16Form
    exacts [fun _ => rfl, fun _ => rfl, rfl, by decide, decodeFormat_mvk]
  | mvkh =>
    apply Coded.cst16Form
    exacts [fun _ => rfl, fun _ => rfl, rfl, by decide, decodeFormat_mvkh]
  | addk =>
    apply Coded.cst16Form
    exacts [fun _ => rfl, fun _ => rfl, rfl, by decide, decodeFormat_addk]
  | ldhu | ldbu | ldb | stb | ldh | sth | ldw | stw | lddw =>
    apply Coded.memForm
    exacts [fun _ => rfl, fun _ => rfl, ⟨rfl, rfl, rfl⟩, fun _ => rfl]
  | ldhu15 | ldbu15 | ldb15 | stb15 | ldh15 | sth15 | ldw15 | stw15 =>
    apply Coded.mem15Form
    exacts [fun _ => rfl, fun _ => rfl, ⟨rfl, rfl⟩, fun h => by rw [decodeLs15, h]; rfl]
  | bReg o => exact .bReg o
  | bIrp o => exact .bIrp o
  | bNrp o => exact .bNrp o
  | mvcRead o => exact .mvcRead o
  | mvcWrite o => exact .mvcWrite o
  | bDisp o => exact .bDisp o
  | nop o => exact .nop o
  | nop9 o => exact .nop9 o
  | idle o => exact .idle o

/-- Settles O1: row by row. -/
theorem decodeInvertsEncode : Obligations.DecodeInvertsEncode := fun i => (coded i).decode_encode

end Sys2Proof

/-! PROOFS. The decoder follows the opcode table (O3), and so the encoder inverts it (O2). -/
namespace Sys2Proof

/-! ### The masks of the opcode table -/

section
variable (w : Word)

theorem and_0x7C : w &&& 0x7C#32 = (field w 2 5).setWidth 32 <<< 2 := and_fieldOnes w 2 5
theorem and_0xFC : w &&& 0xFC#32 = (field w 2 6).setWidth 32 <<< 2 := and_fieldOnes w 2 6
theorem and_0xFFC : w &&& 0xFFC#32 = (field w 2 10).setWidth 32 <<< 2 := and_fieldOnes w 2 10
theorem and_0x1FFC : w &&& 0x1FFC#32 = (field w 2 11).setWidth 32 <<< 2 := and_fieldOnes w 2 11
theorem and_0x3FFFC : w &&& 0x3FFFC#32 = (field w 2 16).setWidth 32 <<< 2 := and_fieldOnes w 2 16
theorem and_0x3FFFE : w &&& 0x3FFFE#32 = (field w 1 17).setWidth 32 <<< 1 := and_fieldOnes w 1 17
theorem and_0x0FFFFFFE : w &&& 0x0FFFFFFE#32 = (field w 1 27).setWidth 32 <<< 1 := and_fieldOnes w 1 27
theorem and_0xFFFFFFFE : w &&& 0xFFFFFFFE#32 = (field w 1 31).setWidth 32 <<< 1 := and_fieldOnes w 1 31
theorem and_0xFFFFFFFC : w &&& 0xFFFFFFFC#32 = (field w 2 30).setWidth 32 <<< 2 := and_fieldOnes w 2 30

/-- What a mask of two fields leaves of a word. -/
theorem and_fieldOnes_or (lo n lo' n' : Nat) : w &&& (fieldOnes lo n ||| fieldOnes lo' n') =
    (field w lo n).setWidth 32 <<< lo ||| (field w lo' n').setWidth 32 <<< lo' := by
  rw [BitVec.and_or_distrib_left, and_fieldOnes, and_fieldOnes]

theorem and_0x17C : w &&& 0x17C#32 = (field w 8 1).setWidth 32 <<< 8 ||| (field w 2 5).setWidth 32 <<< 2 :=
  and_fieldOnes_or w 8 1 2 5
theorem and_0x3EFFC : w &&& 0x3EFFC#32 = (field w 13 5).setWidth 32 <<< 13 ||| (field w 2 10).setWidth 32 <<< 2 :=
  and_fieldOnes_or w 13 5 2 10
theorem and_0x3EFFE : w &&& 0x3EFFE#32 = (field w 13 5).setWidth 32 <<< 13 ||| (field w 1 11).setWidth 32 <<< 1 :=
  and_fieldOnes_or w 13 5 1 11
theorem and_0xFFFF1FFE : w &&& 0xFFFF1FFE#32 = (field w 16 16).setWidth 32 <<< 16 ||| (field w 1 12).setWidth 32 <<< 1 :=
  and_fieldOnes_or w 16 16 1 12
theorem and_0x0F83EFFE : w &&& 0x0F83EFFE#32 = (field w 23 5).setWidth 32 <<< 23 |||
    ((field w 13 5).setWidth 32 <<< 13 ||| (field w 1 11).setWidth 32 <<< 1) := by
  rw [← and_fieldOnes_or, ← and_fieldOnes, ← BitVec.and_or_distrib_left]
  rfl

end

/-! ### What the decoder answers has the fixed bits of its row -/

/-- Where an answer of the decoder on `w` is an instruction, `w` has the fixed bits of its row. -/
def Follows (w : Word) (r : Except DecodeError Instr) : Prop := ∀ i, r = .ok i → w &&& i.tableRow.1 = i.tableRow.2

section
variable {w : Word} {c : Cond} {i : Instr} {e : DecodeError}

theorem follows_ok_iff : Follows w (.ok i) ↔ w &&& i.tableRow.1 = i.tableRow.2 := by simp [Follows]
theorem Follows.error : Follows w (.error e) := by simp [Follows]

theorem follows_needX0_iff : Follows w (needX0 w i) ↔ (flag w 12 = false → w &&& i.tableRow.1 = i.tableRow.2) := by
  cases h : flag w 12 <;> simp [needX0, h, follows_ok_iff, Follows.error]

theorem follows_needSrc0_iff : Follows w (needSrc0 w i) ↔ (field w 13 5 = 0 → w &&& i.tableRow.1 = i.tableRow.2) := by
  by_cases h : field w 13 5 = 0#5 <;> simp [needSrc0, h, follows_ok_iff, Follows.error]

theorem follows_needSrcX0_iff : Follows w (needSrcX0 w i) ↔ (field w 12 6 = 0 → w &&& i.tableRow.1 = i.tableRow.2) := by
  by_cases h : field w 12 6 = 0#6 <;> simp [needSrcX0, h, follows_ok_iff, Follows.error]

/-! Format by format: `hop` puts the op value, which the table of the format is read by, into bits 11:2. -/

theorem decodeL_follows (hl : field w 2 3 = 0b110) : Follows w (decodeL w c) := by
  have hop : field w 2 10 = field w 5 7 ++ 0b110#3 := field_eq_append rfl hl
  have hx : field w 2 11 = bit (flag w 12) ++ field w 2 10 := field_eq_append (lo := 2) (m := 10) (field_one rfl) rfl
  have hs : field w 2 16 = field w 12 6 ++ field w 2 10 := field_eq_append (lo := 2) (m := 10) rfl rfl
  unfold decodeL
  split
  case h_58 => exact .error -- the reserved op values
  all_goals
    rename_i h
    rw [BitVec.toNat_eq_nat] at h
    simp +contextual [follows_ok_iff, follows_needX0_iff, follows_needSrc0_iff, follows_needSrcX0_iff, Instr.tableRow,
      and_0xFFC, and_0x1FFC, and_0x3FFFC, and_0x3EFFC, hop, hx, hs, h]

theorem decodeM_follows (hm : field w 2 5 = 0b00000) : Follows w (decodeM w c) := by
  have hop : field w 2 10 = field w 7 5 ++ 0b00000#5 := field_eq_append rfl hm
  unfold decodeM
  split
  case h_23 => exact .error
  all_goals
    rename_i h
    rw [BitVec.toNat_eq_nat] at h
    simp [follows_ok_iff, Instr.tableRow, and_0xFFC, hop, h]

theorem decodeD_follows (hd : field w 2 5 = 0b10000) : Follows w (decodeD w c) := by
  have hop : field w 2 11 = field w 7 6 ++ 0b10000#5 := field_eq_append rfl hd
  unfold decodeD
  split
  case h_17 => exact .error
  all_goals
    rename_i h
    rw [BitVec.toNat_eq_nat] at h
    simp [follows_ok_iff, Instr.tableRow, and_0x1FFC, hop, h]

theorem Follows.ite {p : Prop} [Decidable p] {r : Except DecodeError Instr} (h : p → Follows w r) :
    Follows w (if p then r else .error e) := by
  split
  · exact h ‹_›
  · exact .error

theorem decodeReturn_follows (hop : field w 2 10 = 0b0000111000) : Follows w (decodeReturn w c) := by
  unfold decodeReturn
  split
  · exact .error
  next hs =>
    refine .ite fun ⟨hd, h12⟩ => ?_
    have hs : flag w 1 = true := by simpa using hs
    have hw := field_eq_append (field_eq_append (field_eq_append (field_eq_append hd (rfl : _ = field w 18 5)) h12) hop)
      (field_one hs)
    split
    case h_3 => exact .error
    all_goals
      rename_i h
      rw [BitVec.toNat_eq_nat] at h
      simp [follows_ok_iff, Instr.tableRow, and_0x0FFFFFFE, hw, h]

theorem decodeBReg_follows (hop : field w 2 10 = 0b0011011000) : Follows w (decodeBReg w c) := by
  refine .ite fun ⟨hs, hd, h1⟩ => ?_
  have hw : field w 1 11 = 0b0011011000#10 ++ bit true := field_eq_append hop (field_one hs)
  simp [follows_ok_iff, Instr.tableRow, and_0x0F83EFFE, hd, h1, hw]

theorem decodeMvcWrite_follows (hop : field w 2 10 = 0b0011101000) : Follows w (decodeMvcWrite w c) := by
  refine .ite fun ⟨hs, h1⟩ => ?_
  have hw : field w 1 11 = 0b0011101000#10 ++ bit true := field_eq_append hop (field_one hs)
  simp [follows_ok_iff, Instr.tableRow, and_0x3EFFE, h1, hw]

theorem decodeMvcRead_follows (hop : field w 2 10 = 0b0011111000) : Follows w (decodeMvcRead w c) := by
  refine .ite fun ⟨hs, h12⟩ => ?_
  have hw : field w 1 17 = 0#6 ++ (0b0011111000#10 ++ bit true) := field_eq_append h12 (field_eq_append hop (field_one hs))
  simp [follows_ok_iff, Instr.tableRow, and_0x3FFFE, hw]

theorem decodeS_follows (hs : field w 2 4 = 0b1000) : Follows w (decodeS w c) := by
  have hop : field w 2 10 = field w 6 6 ++ 0b1000#4 := field_eq_append rfl hs
  have hx : field w 2 11 = bit (flag w 12) ++ field w 2 10 := field_eq_append (lo := 2) (m := 10) (field_one rfl) rfl
  unfold decodeS
  split
  case h_37 => exact .error
  all_goals
    rename_i h
    rw [BitVec.toNat_eq_nat] at h
  case h_1 => exact decodeReturn_follows (by simp [hop, h])
  case h_2 => exact decodeBReg_follows (by simp [hop, h])
  case h_3 => exact decodeMvcWrite_follows (by simp [hop, h])
  case h_4 => exact decodeMvcRead_follows (by simp [hop, h])
  all_goals
    simp +contextual [follows_ok_iff, follows_needX0_iff, Instr.tableRow, and_0xFFC, and_0x1FFC, hop, hx, h]

theorem decodeField_follows (hf : field w 2 4 = 0b0010) : Follows w (decodeField w c) := by
  have hop : field w 2 6 = field w 6 2 ++ 0b0010#4 := field_eq_append rfl hf
  unfold decodeField
  split
  case h_4 h0 h1 h2 =>
    simp only [imp_false] at h0 h1 h2
    have h3 : field w 6 2 = 3#2 := BitVec.eq_of_toNat_eq (by have := (field w 6 2).isLt; simp; omega)
    simp [follows_ok_iff, Instr.tableRow, and_0xFC, hop, h3]
  all_goals
    rename_i h
    rw [BitVec.toNat_eq_nat] at h
    simp [follows_ok_iff, Instr.tableRow, and_0xFC, hop, h]

theorem memInstr_follows {o : MemForm} (h01 : field w 2 2 = 0b01) : Follows w (memInstr (flag w 8) (field w 4 3) o) := by
  have hop : field w 2 5 = field w 4 3 ++ 0b01#2 := field_eq_append rfl h01
  unfold memInstr
  split
  case h_10 => exact .error
  case h_8 hr h0 h1 h2 h3 h4 h5 h6 =>
    simp only [imp_false] at h0 h1 h2 h3 h4 h5 h6
    have h7 : field w 4 3 = 7#3 := BitVec.eq_of_toNat_eq (by have := (field w 4 3).isLt; simp; omega)
    simp [follows_ok_iff, Instr.tableRow, and_0x17C, hop, h7, field_one hr]
  all_goals
    rename_i hr h
    rw [BitVec.toNat_eq_nat] at h
    simp [follows_ok_iff, Instr.tableRow, and_0x17C, hop, h, field_one hr]

theorem decodeLsr_follows (h01 : field w 2 2 = 0b01) : Follows w (decodeLsr w c) := by
  unfold decodeLsr
  split
  · exact memInstr_follows h01
  · exact .error

theorem decodeLs15_follows (h11 : field w 2 2 = 0b11) : Follows w (decodeLs15 w c) := by
  have hop : field w 2 5 = field w 4 3 ++ 0b11#2 := field_eq_append rfl h11
  unfold decodeLs15
  split
  case h_8 h0 h1 h2 h3 h4 h5 h6 =>
    simp only [imp_false] at h0 h1 h2 h3 h4 h5 h6
    have h7 : field w 4 3 = 7#3 := BitVec.eq_of_toNat_eq (by have := (field w 4 3).isLt; simp; omega)
    simp [follows_ok_iff, Instr.tableRow, and_0x7C, hop, h7]
  all_goals
    rename_i h
    rw [BitVec.toNat_eq_nat] at h
    simp [follows_ok_iff, Instr.tableRow, and_0x7C, hop, h]

theorem FormatOf.follows {r : Except DecodeError Instr} (h : FormatOf w c r) : Follows w r := by
  cases h with
  | lsr h => exact decodeLsr_follows h
  | ls15 h => exact decodeLs15_follows h
  | constField h => exact decodeField_follows h
  | l h => exact decodeL_follows h
  | m h => exact decodeM_follows h
  | s h => exact decodeS_follows h
  | d h => exact decodeD_follows h
  | mvk h | mvkh h | bDisp h | addk h => simp [follows_ok_iff, Instr.tableRow, and_0x7C, h]
  | reserved h => exact .error

theorem NopOf.fixedBits (h17 : field w 17 15 = 0) (h2 : field w 2 11 = 0) (h : NopOf w i) :
    w &&& i.tableRow.1 = i.tableRow.2 := by
  cases h with
  | idle h13 =>
    have hw := field_eq_append (field_eq_append h17 h13) h2
    simp [Instr.tableRow, and_0xFFFFFFFC, hw]
  | nop9 h13 hs =>
    have hw := field_eq_append (field_eq_append (field_eq_append h17 h13) h2) (field_one hs)
    simp [Instr.tableRow, and_0xFFFFFFFE, hw]
  | nop hlt hs =>
    have h1 : field w 1 12 = 0#11 ++ bit false := field_eq_append h2 (field_one hs)
    have h16 : field w 16 16 = 0 := by
      simp only [field_eq_iff, field_toNat] at h17 hlt ⊢
      simp at h17 hlt ⊢
      omega
    simp [Instr.tableRow, and_0xFFFF1FFE, h1, h16]

/-- A word that decodes has the fixed bits of the row of its instruction. -/
theorem fixedBits_of_decode (h : decode w = .ok i) : w &&& i.tableRow.1 = i.tableRow.2 := by
  rcases decode_eq_ok h with ⟨h2, hn⟩ | ⟨-, c, -, hf⟩
  · obtain ⟨h17, hnop⟩ := decodeNop_eq_ok hn
    exact hnop.fixedBits h17 h2
  · exact (decodeFormat_formatOf w c).follows i hf

/-- A word with the fixed bits of a row, whose condition and mode are not reserved, is the word of an instruction of the
row. -/
theorem exists_encode_of_fixedBits (h : w &&& i.tableRow.1 = i.tableRow.2) (h1 : field w 28 4 ≠ 1)
    (h14 : (field w 28 4).toNat < 14) (hmode : field w 2 2 = 1 → ¬ reservedMode (field w 9 4)) :
    ∃ j, encode j = w ∧ j.tableRow = i.tableRow := by
  obtain ⟨c, hc⟩ := exists_cond h1 h14
  exact (coded i).exists_encode h hc fun h2 => exists_mode (hmode h2) _

end

/-- Settles O3: the fixed bits of what decodes, and the instruction of the row whose word it is. -/
theorem decoderFollowsOpcodeTable : Obligations.DecoderFollowsOpcodeTable := by
  refine ⟨fun w i => fixedBits_of_decode, fun w i h h1 h14 hmode => ?_⟩
  obtain ⟨j, rfl, hj⟩ := exists_encode_of_fixedBits h h1 h14 fun h2 => by simpa [reservedMode] using hmode h2
  exact ⟨j, decodeInvertsEncode j, hj⟩

/-- The condition and the mode of a word that decodes are not reserved (R128, R160, R282). -/
theorem not_reserved_of_decode {w : Word} {i : Instr} (h : decode w = .ok i) :
    field w 28 4 ≠ 1 ∧ (field w 28 4).toNat < 14 ∧ (field w 2 2 = 1 → ¬ reservedMode (field w 9 4)) := by
  rcases decode_eq_ok h with ⟨h2, hn⟩ | ⟨-, c, hc, hf⟩
  · have h28 : field w 28 4 = 0 := field_field (decodeNop_eq_ok hn).1 11 4 (by decide)
    have h0 : field w 2 2 = 0 := field_field h2 0 2 (by decide)
    simp [h28, h0]
  · obtain ⟨h1, h14⟩ := c.code_not_reserved
    exact ⟨hc ▸ h1, hc ▸ h14, fun h2 => (lsr_not_reserved hf h2).1⟩

/-- Settles O2: the word has the fixed bits of its row, so it is the word of an instruction, the one it decodes to. -/
theorem encodeInvertsDecode : Obligations.EncodeInvertsDecode := by
  intro w i h
  obtain ⟨h1, h14, hmode⟩ := not_reserved_of_decode h
  obtain ⟨j, rfl, -⟩ := exists_encode_of_fixedBits (fixedBits_of_decode h) h1 h14 hmode
  rw [decodeInvertsEncode j] at h
  cases h
  rfl

end Sys2Proof

/-! PROOFS. Loads and stores with a 15-bit offset (O24; R119, R282, R288). -/
namespace Sys2Proof.Machine

/-- The scaled constant added to B14 or B15 is the address of the statement (R282). -/
theorem ls15Address_eq (s : State) (o : Mem15Form) (z : Access) : s.ls15Address o z = address15 s o z.bytes := by
  have hscale : o.off.setWidth 32 <<< z.scale = BitVec.ofNat 32 z.bytes * o.off.setWidth 32 := by
    cases z <;> simp only [Access.scale, Access.bytes] <;> bv_omega
  simp [State.ls15Address, address15, Mem15Form.base, hscale]

section
variable {s : State} {o : Mem15Form} {i : Instr} {z : Access}

theorem accesses15_of_load {g : Bool} (hexec : exec i s = issue i s (s.load15 o z g)) :
    accesses15 s i o z.bytes fun a t => t.pendLoad a z g o.side o.data := by
  rintro ⟨hwf, hcond⟩
  rw [hexec, issue_of_ready hwf hcond, State.load15, ls15Address_eq]
  constructor <;> intro h <;> simp [aligned, h]

theorem accesses15_of_store (hexec : exec i s = issue i s (s.store15 o z)) :
    accesses15 s i o z.bytes fun a t => t.pendStore a z (s.gpr o.side o.data) := by
  rintro ⟨hwf, hcond⟩
  rw [hexec, issue_of_ready hwf hcond, State.store15, ls15Address_eq]
  constructor <;> intro h <;> simp [aligned, h]

end

/-- Settles O24: each access is E1 of a load or store at the address of `address15`. -/
theorem longOffsetAccesses : Obligations.LongOffsetAccesses := fun _ =>
  ⟨fun _ => accesses15_of_load (z := .byte) rfl, fun _ => accesses15_of_load (z := .byte) rfl,
    fun _ => accesses15_of_load (z := .half) rfl, fun _ => accesses15_of_load (z := .half) rfl,
    fun _ => accesses15_of_load (z := .word) rfl, fun _ => accesses15_of_store (z := .byte) rfl,
    fun _ => accesses15_of_store (z := .half) rfl, fun _ => accesses15_of_store (z := .word) rfl⟩

end Sys2Proof.Machine

/-! SUPPORT. E1 of an instruction adds the same effects whatever is in flight, each of a kind that the instruction may have, and
writes every register that it names as a result without delay slots (R155 step 4, R156, R157). -/
namespace Sys2Proof.Machine

@[simp] theorem State.withEffects_regs (s : State) (e : Effects) : (s.withEffects e).regs = s.regs := rfl
@[simp] theorem State.withEffects_mem (s : State) (e : Effects) : (s.withEffects e).mem = s.mem := rfl
@[simp] theorem State.withEffects_flight_pw (s : State) (e : Effects) :
    (s.withEffects e).flight.pw = s.flight.pw ++ e.writes := rfl
@[simp] theorem State.withEffects_flight_pmLoads (s : State) (e : Effects) :
    (s.withEffects e).flight.pmLoads = s.flight.pmLoads ++ e.loads := rfl
@[simp] theorem State.withEffects_flight_pmStores (s : State) (e : Effects) :
    (s.withEffects e).flight.pmStores = s.flight.pmStores ++ e.stores := rfl
@[simp] theorem State.withEffects_flight_psat (s : State) (e : Effects) :
    (s.withEffects e).flight.psat = s.flight.psat ++ e.sats := rfl

/-! ### The registers that an instruction writes (R157) -/

/-- Every register that lands belongs to an operand that is written. -/
theorem exists_write_of_landing {d : Demand} {n : Nat} {side : Side} {r : RegNum} (h : (n, side, r) ∈ landings d) :
    ∃ u ∈ d.writes, (side, r) ∈ u.regs := by
  have hwrites : ∀ {m : Nat}, (n, side, r) ∈ (d.writes.flatMap RegUse.regs).map (fun q => (m, q)) →
      ∃ u ∈ d.writes, (side, r) ∈ u.regs := fun h => by
    obtain ⟨q, hq, hqr⟩ := List.mem_map.1 h
    cases hqr
    exact List.mem_flatMap.1 hq
  unfold landings at h
  simp only at h
  split at h
  · exact hwrites h
  · simp only [List.mem_append, List.mem_map, List.mem_flatMap, Prod.mk.injEq] at h
    rcases h with ⟨_, ⟨u, hu, hr⟩, -, rfl⟩ | ⟨_, ⟨u, hu, hr⟩, -, rfl⟩
    · exact ⟨u, List.mem_of_mem_dropLast hu, hr⟩
    · exact ⟨u, List.mem_of_getLast? (by simpa using hu), hr⟩
  · exact hwrites h

theorem isDestination_of_landing {i : Instr} {n : Nat} {side : Side} {r : RegNum}
    (h : (n, side, r) ∈ landings i.demand) : isDestination i (.gpr side r) := by
  obtain ⟨u, hu, hr⟩ := exists_write_of_landing h
  exact .inl ⟨u, hu, (side, r), hr, rfl⟩

/-- Without delay slots a load of format LSR writes its base register, when the mode updates it. -/
theorem mem_landings_loadDemand {o : MemForm} {d : Size} {side : Side} {r : RegNum} :
    (0, side, r) ∈ landings (o.loadDemand d) ↔ o.mode.update ≠ .none ∧ side = o.y ∧ r = o.base := by
  cases hu : o.mode.update <;> simp [landings, MemForm.loadDemand, AddrMode.writes, hu, RegUse.regs, loadDelay]

theorem mem_landings_storeDemand {o : MemForm} {n : Nat} {side : Side} {r : RegNum} :
    (n, side, r) ∈ landings o.storeDemand ↔ n = 0 ∧ o.mode.update ≠ .none ∧ side = o.y ∧ r = o.base := by
  cases hu : o.mode.update <;> simp [landings, MemForm.storeDemand, AddrMode.writes, hu, RegUse.regs]

theorem not_mem_landings_loadDemand15 {o : Mem15Form} {side : Side} {r : RegNum} :
    (0, side, r) ∉ landings o.loadDemand := by
  simp [landings, Mem15Form.loadDemand, loadDelay]

/-- The address computation of format LSR has a new base value exactly when the mode updates the base (R282). -/
theorem lsrAddress_update {s : State} {o : MemForm} {z : Access} {a : Word} {u : Option Word}
    (h : s.lsrAddress o z = .ok (a, u)) : u.isSome = true ↔ o.mode.update ≠ .none := by
  unfold State.lsrAddress at h
  split at h
  · cases h
  · split at h <;> cases h <;> simp_all

/-! ### The kinds of effects -/

/-- What E1 of `i` may add: effects of its kinds, no branch and no SAT that is due in the same cycle (R214, R409). -/
structure Effects.Of (i : Instr) (e : Effects) : Prop where
  writes : ∀ w ∈ e.writes, isDestination i w.target
  branches : ∀ b ∈ e.branches, i.demand.branch = true ∧ b.left ≠ 0
  loads : ∀ l ∈ e.loads, ∃ d, i.demand.data = some d ∧ d.store = false
  stores : ∀ t ∈ e.stores, ∃ d, i.demand.data = some d ∧ d.store = true
  sats : ∀ n ∈ e.sats, setsSat i = true ∧ n ≠ 0
  nop : e.nop ≠ 0 → ∃ o, i = .nop o ∨ ∃ q, i = .nop9 q
  idle : e.idle = true → ∃ o, i = .idle o

/-- Each register that `i` writes without delay slots has its write. -/
def Effects.Covers (i : Instr) (e : Effects) : Prop :=
  ∀ side r, (0, side, r) ∈ landings i.demand → ∃ w ∈ e.writes, w.target = .gpr side r ∧ w.left = 0

section
variable {i : Instr} {e f : Effects}

theorem Effects.Of.belongTo (h : e.Of i) : e.belongTo i := by
  refine ⟨h.writes, fun hne => ?_, fun hne => ?_, fun hne => ?_, fun hne => ?_, h.nop, h.idle⟩ <;>
    obtain ⟨x, hx⟩ := List.exists_mem_of_ne_nil _ hne
  · exact (h.branches x hx).1
  · exact h.loads x hx
  · exact h.stores x hx
  · exact (h.sats x hx).1

theorem Effects.Of.empty : Effects.empty.Of i where
  writes := by simp [Effects.empty]
  branches := by simp [Effects.empty]
  loads := by simp [Effects.empty]
  stores := by simp [Effects.empty]
  sats := by simp [Effects.empty]
  nop h := absurd rfl h
  idle h := by simp [Effects.empty] at h

theorem Effects.Of.append (he : e.Of i) (hf : f.Of i) : (e.append f).Of i where
  writes := List.forall_mem_append.2 ⟨he.writes, hf.writes⟩
  branches := List.forall_mem_append.2 ⟨he.branches, hf.branches⟩
  loads := List.forall_mem_append.2 ⟨he.loads, hf.loads⟩
  stores := List.forall_mem_append.2 ⟨he.stores, hf.stores⟩
  sats := List.forall_mem_append.2 ⟨he.sats, hf.sats⟩
  nop h := by
    by_cases h0 : e.nop = 0
    · exact hf.nop (by simpa [Effects.append, h0] using h)
    · exact he.nop h0
  idle h := (Bool.or_eq_true_iff.1 h).elim he.idle hf.idle

theorem Effects.Of.of_writes {ws : List Write} (h : ∀ w ∈ ws, isDestination i w.target) :
    Effects.Of i { Effects.empty with writes := ws } := { Effects.Of.empty with writes := h }

theorem Effects.Of.of_sat (h : setsSat i = true) (d : Nat) : Effects.Of i { Effects.empty with sats := [d + 1] } :=
  { Effects.Of.empty with sats := by simp [h] }

theorem Effects.Of.of_branch (h : i.demand.branch = true) (a : Word) (k : BranchKind) :
    Effects.Of i { Effects.empty with branches := [⟨a, branchDelay, k⟩] } :=
  { Effects.Of.empty with branches := by simp [h, branchDelay] }

theorem Effects.Of.of_load (h : ∃ d, i.demand.data = some d ∧ d.store = false) (l : Load) :
    Effects.Of i { Effects.empty with loads := [l] } := { Effects.Of.empty with loads := fun _ _ => h }

theorem Effects.Of.of_store (h : ∃ d, i.demand.data = some d ∧ d.store = true) (t : Store) :
    Effects.Of i { Effects.empty with stores := [t] } := { Effects.Of.empty with stores := fun _ _ => h }

theorem Effects.Covers.append_left (h : e.Covers i) : (e.append f).Covers i := fun side r hr => by
  obtain ⟨w, hw, hwr⟩ := h side r hr
  exact ⟨w, List.mem_append_left _ hw, hwr⟩

theorem Effects.Covers.of_landings_nil (h : landings i.demand = []) : e.Covers i := fun side r hr => by
  rw [h] at hr; cases hr

/-- The effects of the executed body of `i`. -/
def Effects.Full (i : Instr) (e : Effects) : Prop := e.Of i ∧ e.Covers i

theorem Effects.Full.of_word {n : Nat} {side : Side} {r : RegNum} (h : landings i.demand = [(n, side, r)]) (v : Word) :
    Effects.Full i { Effects.empty with writes := [⟨.gpr side r, v, n⟩] } := by
  refine ⟨.of_writes ?_, fun side' r' hr => ?_⟩
  · simpa using isDestination_of_landing (i := i) (n := n) (by simp [h])
  · rw [h, List.mem_singleton] at hr
    cases hr
    exact ⟨_, List.mem_singleton_self _, rfl, rfl⟩

theorem Effects.Full.of_pair {side : Side} {r : RegNum} (h : landings i.demand = [(0, side, r), (0, side, r + 1)])
    (v w : Word) :
    Effects.Full i { Effects.empty with writes := [⟨.gpr side r, v, 0⟩, ⟨.gpr side (r + 1), w, 0⟩] } := by
  refine ⟨.of_writes ?_, fun side' r' hr => ?_⟩
  · have hlow := isDestination_of_landing (i := i) (n := 0) (side := side) (r := r) (by simp [h])
    have hhigh := isDestination_of_landing (i := i) (n := 0) (side := side) (r := r + 1) (by simp [h])
    simpa using ⟨hlow, hhigh⟩
  · simp only [h, List.mem_cons, List.not_mem_nil, or_false, Prod.mk.injEq, true_and] at hr
    rcases hr with ⟨rfl, rfl⟩ | ⟨rfl, rfl⟩ <;> simp

/-- The update of the base register of a load or store of format LSR, when the mode has one (R282). -/
theorem Effects.Full.of_base {o : MemForm} {u : Option Word} (hu : u.isSome = true ↔ o.mode.update ≠ .none)
    (h : ∀ side r, (0, side, r) ∈ landings i.demand ↔ o.mode.update ≠ .none ∧ side = o.y ∧ r = o.base) :
    Effects.Full i { Effects.empty with writes := (u.map fun v => (⟨.gpr o.y o.base, v, 0⟩ : Write)).toList } := by
  cases u with
  | none =>
    refine ⟨.of_writes (by simp), fun side r hr => ?_⟩
    have := hu.2 ((h side r).1 hr).1
    cases this
  | some v =>
    refine ⟨.of_writes ?_, fun side r hr => ?_⟩
    · simpa using isDestination_of_landing ((h o.y o.base).2 ⟨hu.1 rfl, rfl, rfl⟩)
    · obtain ⟨-, rfl, rfl⟩ := (h side r).1 hr
      simp

theorem Effects.Full.append_left (he : e.Full i) (hf : f.Of i) : (e.append f).Full i :=
  ⟨he.1.append hf, he.2.append_left⟩

end

/-! ### What E1 of an instruction emits -/

/-- A result of E1, as a function of what is in flight: never a next state, or always the same effects, with the property `Q`. -/
def Emits (Q : Effects → Prop) (s : State) (r : Flight → Result) : Prop :=
  (∀ f u, r f ≠ .next u) ∨ ∃ e, Q e ∧ ∀ f, r f = .next (State.withEffects { s with flight := f } e)

section
variable {i : Instr} {s : State}

theorem Emits.fault {Q : Effects → Prop} (x : Fault) : Emits Q s fun _ => .fault x := .inl fun _ _ h => by cases h

theorem Emits.of_withEffects {Q : Effects → Prop} {e : Effects} {g : Flight → State} (he : Q e)
    (h : ∀ f, g f = State.withEffects { s with flight := f } e) : Emits Q s fun f => .next (g f) :=
  .inr ⟨e, he, fun f => congrArg _ (h f)⟩

/-- The guard passes on what the body emits when the condition holds, and nothing otherwise. -/
theorem Emits.issue {body : Flight → Result} (h : Emits (Effects.Full i) s body) :
    Emits (fun e => e.Of i ∧ (condHolds s i.demand.cond = true → e.Covers i)) s
      fun f => issue i { s with flight := f } (body f) := by
  cases hill : illegality s.params.variant i with
  | some x => exact .inl fun f u hu => by simp [Machine.issue, hill] at hu
  | none =>
    have hwf := (illegality_eq_none_iff _ _).1 hill
    cases hc : condHolds s i.demand.cond with
    | false => exact .inr ⟨.empty, ⟨.empty, by simp⟩, fun f => by rw [State.withEffects_empty]; exact issue_of_not_cond hwf hc⟩
    | true =>
      have hbody : ∀ f, Machine.issue i { s with flight := f } (body f) = body f := fun f => issue_of_ready hwf hc
      simp only [hbody]
      rcases h with h | ⟨e, he, h⟩
      · exact .inl h
      · exact .inr ⟨e, ⟨he.1, fun _ => he.2⟩, h⟩

theorem Emits.ite {Q : Effects → Prop} {c : Flight → Prop} {dec : ∀ f, Decidable (c f)} {q r : Flight → Result}
    (hc : ∀ f, c f = c s.flight) (hq : Emits Q s q) (hr : Emits Q s r) :
    Emits Q s fun f => if c f then q f else r f := by
  by_cases h : c s.flight
  · simpa only [hc, h, if_true] using hq
  · simpa only [hc, h, if_false] using hr

/-! In the lemmas below an operand value is a function of what is in flight that does not depend on it. -/

theorem Emits.putWord {side : Side} {r : RegNum} {v : Flight → Word} {n : Nat}
    (hl : landings i.demand = [(n, side, r)]) (hv : ∀ f, v f = v s.flight) :
    Emits (Effects.Full i) s fun f => .next (State.putWord { s with flight := f } side r (v f) n) :=
  .of_withEffects (.of_word hl (v s.flight)) fun f => by rw [hv f]; exact State.enqueue_eq_withEffects _ _

theorem Emits.putLong {side : Side} {r : RegNum} {v : Flight → Long}
    (hl : landings i.demand = [(0, side, r), (0, side, r + 1)]) (hv : ∀ f, v f = v s.flight) :
    Emits (Effects.Full i) s fun f => .next (State.putLong { s with flight := f } side r (v f)) :=
  .of_withEffects (.of_pair hl _ _) fun f => by rw [hv f]; exact State.enqueue_eq_withEffects _ _

/-- A result that sets SAT when `b`. -/
theorem Emits.pendSatIf {g : Flight → State} {b : Bool} {n : Nat} (hs : setsSat i = true)
    (h : Emits (Effects.Full i) s fun f => .next (g f)) :
    Emits (Effects.Full i) s fun f => .next ((g f).pendSatIf b n) := by
  cases b with
  | false => exact h
  | true =>
    rcases h with h | ⟨e, he, h⟩
    · exact (h s.flight _ rfl).elim
    · refine .of_withEffects (he.append_left (.of_sat hs n)) fun f => ?_
      obtain hg := next_eq_next.1 (h f)
      rw [← State.withEffects_withEffects, hg, ← State.pendSat_eq_withEffects]
      rfl

theorem Emits.putSat {side : Side} {r : RegNum} {x : Flight → Int} {n : Nat} (hs : setsSat i = true)
    (hl : landings i.demand = [(n, side, r)]) (hx : ∀ f, x f = x s.flight) :
    Emits (Effects.Full i) s fun f => .next (State.putSat { s with flight := f } side r (x f) n) := by
  simp only [hx, State.putSat]
  exact .pendSatIf hs (.putWord hl fun _ => rfl)

theorem Emits.putSatLong {side : Side} {r : RegNum} {x : Flight → Int} (hs : setsSat i = true)
    (hl : landings i.demand = [(0, side, r), (0, side, r + 1)]) (hx : ∀ f, x f = x s.flight) :
    Emits (Effects.Full i) s fun f => .next (State.putSatLong { s with flight := f } side r (x f)) := by
  simp only [hx, State.putSatLong]
  exact .pendSatIf hs (.putLong hl fun _ => rfl)

theorem Emits.putAddress {side : Side} {base dst : RegNum} {a : Flight → Word} {z : Access} {add : Bool}
    (hl : landings i.demand = [(0, side, dst)]) (ha : ∀ f, a f = a s.flight) :
    Emits (Effects.Full i) s fun f => State.putAddress { s with flight := f } side base dst (a f) z add := by
  simp only [ha]
  have haddress : ∀ f, State.address { s with flight := f } side base (a s.flight <<< z.scale) add =
      s.address side base (a s.flight <<< z.scale) add := fun _ => rfl
  simp only [State.putAddress, haddress]
  cases s.address side base (a s.flight <<< z.scale) add with
  | error x => exact .fault x
  | ok v => exact .putWord hl fun _ => rfl

theorem Emits.pendBranch {a : Flight → Word} {k : BranchKind} (hb : i.demand.branch = true)
    (hl : landings i.demand = []) (ha : ∀ f, a f = a s.flight) :
    Emits (Effects.Full i) s fun f => .next (State.pendBranch { s with flight := f } (a f) k) :=
  .of_withEffects ⟨.of_branch hb _ k, .of_landings_nil hl⟩ fun f => by
    rw [ha f]; exact State.pendBranch_eq_withEffects _ _ _

theorem Emits.branchTo {a : Flight → Word} {k : BranchKind} (hb : i.demand.branch = true)
    (hl : landings i.demand = []) (ha : ∀ f, a f = a s.flight) :
    Emits (Effects.Full i) s fun f => State.branchTo { s with flight := f } (a f) k := by
  simp only [ha, State.branchTo]
  exact .ite (fun _ => rfl) (.pendBranch hb hl fun _ => rfl) (.fault _)

/-- The base update of format LSR, then an access with the effects `e`. -/
theorem Emits.accessLsr {o : MemForm} {u : Option Word} {g : Flight → State} {e : Effects}
    (hu : u.isSome = true ↔ o.mode.update ≠ .none)
    (hl : ∀ side r, (0, side, r) ∈ landings i.demand ↔ o.mode.update ≠ .none ∧ side = o.y ∧ r = o.base)
    (he : e.Of i) (hg : ∀ f, g f = (State.putBase { s with flight := f } o.y o.base u).withEffects e) :
    Emits (Effects.Full i) s fun f => .next (g f) :=
  .of_withEffects ((Effects.Full.of_base hu hl).append_left he) fun f => by
    rw [hg f, ← State.withEffects_withEffects]
    cases u with
    | none => exact congrArg (State.withEffects · e) (State.withEffects_empty _).symm
    | some v => exact congrArg (State.withEffects · e) (State.enqueue_eq_withEffects _ _)

theorem Emits.loadLsr {o : MemForm} {z : Access} {g : Bool} {d : Size} (hd : i.demand = o.loadDemand d) :
    Emits (Effects.Full i) s fun f => State.loadLsr { s with flight := f } o z g := by
  have haddress : ∀ f, State.lsrAddress { s with flight := f } o z = s.lsrAddress o z := fun _ => rfl
  simp only [State.loadLsr, haddress]
  cases h : s.lsrAddress o z with
  | error x => exact .fault x
  | ok p =>
    refine .ite (fun _ => rfl) ?_ (.fault _)
    exact .accessLsr (lsrAddress_update h) (fun side r => by rw [hd]; exact mem_landings_loadDemand)
      (.of_load ⟨_, by rw [hd]; rfl, rfl⟩ _) fun _ => State.pendLoad_eq_withEffects _ _ _ _ _ _

theorem Emits.storeLsr {o : MemForm} {z : Access} (hd : i.demand = o.storeDemand) :
    Emits (Effects.Full i) s fun f => State.storeLsr { s with flight := f } o z := by
  have haddress : ∀ f, State.lsrAddress { s with flight := f } o z = s.lsrAddress o z := fun _ => rfl
  simp only [State.storeLsr, haddress]
  cases h : s.lsrAddress o z with
  | error x => exact .fault x
  | ok p =>
    refine .ite (fun _ => rfl) ?_ (.fault _)
    exact .accessLsr (lsrAddress_update h) (fun side r => by rw [hd, mem_landings_storeDemand]; simp)
      (.of_store ⟨_, by rw [hd]; rfl, rfl⟩ ⟨p.1, z, s.gpr o.side o.data, memLatency⟩)
      fun _ => State.pendStore_eq_withEffects _ _ _ _

theorem Emits.load15 {o : Mem15Form} {z : Access} {g : Bool} (hd : i.demand = o.loadDemand) :
    Emits (Effects.Full i) s fun f => State.load15 { s with flight := f } o z g := by
  have hcovers : ∀ e : Effects, e.Covers i := fun e side r hr => by
    rw [hd] at hr; exact (not_mem_landings_loadDemand15 hr).elim
  have hload : ∃ d, i.demand.data = some d ∧ d.store = false := ⟨_, by rw [hd]; rfl, rfl⟩
  refine .ite (fun _ => rfl) (.of_withEffects ⟨.of_load hload ⟨s.ls15Address o z, z, g, o.side, o.data, memLatency⟩, hcovers _⟩
    fun _ => ?_) (.fault _)
  exact State.pendLoad_eq_withEffects _ _ _ _ _ _

theorem Emits.store15 {o : Mem15Form} {z : Access} (hd : i.demand = o.storeDemand) :
    Emits (Effects.Full i) s fun f => State.store15 { s with flight := f } o z := by
  have hl : landings i.demand = [] := by rw [hd]; rfl
  refine .ite (fun _ => rfl) (.of_withEffects
    ⟨.of_store ⟨_, by rw [hd]; rfl, rfl⟩ ⟨s.ls15Address o z, z, s.gpr o.side o.data, memLatency⟩, .of_landings_nil hl⟩
    fun _ => ?_) (.fault _)
  exact State.pendStore_eq_withEffects _ _ _ _

theorem Emits.putCtrl {o : MvcWriteForm} {c : CtrlDest} {v : Flight → Word} {n : Nat} (hv : ∀ f, v f = v s.flight) :
    Emits (Effects.Full (.mvcWrite o)) s fun f => .next (State.putCtrl { s with flight := f } c (v f) n) := by
  refine .of_withEffects (e := { Effects.empty with writes := [⟨.ctrl c, v s.flight, n⟩] })
    ⟨.of_writes ?_, .of_landings_nil rfl⟩ fun f => by rw [hv f]; exact State.enqueue_eq_withEffects _ _
  simpa using .inr ⟨o, c, rfl, rfl⟩

theorem Emits.requestNop {n : Nat} (hi : ∃ o, i = .nop o ∨ ∃ q, i = .nop9 q) :
    Emits (Effects.Full i) s fun f => .next (State.requestNop { s with flight := f } n) := by
  have hl : landings i.demand = [] := by obtain ⟨o, rfl | ⟨q, rfl⟩⟩ := hi <;> rfl
  exact .of_withEffects (e := { Effects.empty with nop := n - 1 })
    ⟨{ Effects.Of.empty with nop := fun _ => hi }, .of_landings_nil hl⟩ fun _ => State.requestNop_eq_withEffects _ _

theorem Emits.requestIdle {o : IdleForm} :
    Emits (Effects.Full (.idle o)) s fun f => .next (State.requestIdle { s with flight := f }) :=
  .of_withEffects (e := { Effects.empty with idle := true })
    ⟨{ Effects.Of.empty with idle := fun _ => ⟨o, rfl⟩ }, .of_landings_nil rfl⟩
    fun _ => State.requestIdle_eq_withEffects _

end

/-- What E1 of one instruction does, whatever is in flight. -/
theorem exec_emits (i : Instr) (s : State) :
    Emits (fun e => e.Of i ∧ (condHolds s i.demand.cond = true → e.Covers i)) s fun f => exec i { s with flight := f } := by
  cases i with
  | addLCst | addLReg | subLCst | subLReg | subLRegX1 | absWord | cmpgtCstLong | cmpgtRegLong | cmpgtCst | cmpgtReg
  | subc | cmpgtuCstLong | cmpgtuRegLong | cmpgtuCst | cmpgtuReg | cmpeqCstLong | cmpeqRegLong | cmpeqCst | cmpeqReg
  | cmpltCstLong | cmpltRegLong | cmpltCst | cmpltReg | cmpltuCstLong | cmpltuRegLong | cmpltuCst | cmpltuReg
  | normLong | normWord | lmbdCst | lmbdReg | xorLCst | xorLReg | andLCst | andLReg | orLCst | orLReg
  | add2 | addSCst | addSReg | xorSCst | xorSReg | sub2 | subSCst | subSReg | orSCst | orSReg | andSCst | andSReg
  | shruCst | shruReg | extuReg | extReg | shlCst | shlReg | shrCst | shrReg
  | mpyh | mpyhsu | mpyhus | mpyhu | mpyhl | mpyhslu | mpyhuls | mpyhlu | mpylh | mpylshu | mpyluhs | mpylhu
  | mpyCst | mpyReg | mpysuReg | mpyus | mpysuCst | mpyu
  | mvcRead | addk | extuCst | extCst | mvk | mvkh | addDReg | subDReg | addDCst | subDCst =>
    exact .issue (.putWord rfl fun _ => rfl)
  | addLCstLong | addLRegLong | addLWide | subLCstLong | subLWide | adduRegLong | adduWide | subuWide | subLWideX1
  | absLong | subuWideX1 | shlCstWide | shlRegWide | shruCstLong | shruRegLong | shlCstLong | shlRegLong
  | shrCstLong | shrRegLong => exact .issue (.putLong rfl fun _ => rfl)
  | ssubCst | ssubReg | saddCst | saddReg | ssubRegX1 | sat | sshlCst | smpyh | smpyhl | smpylh | smpy =>
    exact .issue (.putSat rfl rfl fun _ => rfl)
  | ssubCstLong | saddCstLong | saddRegLong => exact .issue (.putSatLong rfl rfl fun _ => rfl)
  | sshlReg => exact .issue (.ite (fun _ => rfl) (.fault _) (.putSat rfl rfl fun _ => rfl))
  | setReg | clrReg | setCst | clrCst => exact .issue (.ite (fun _ => rfl) (.putWord rfl fun _ => rfl) (.fault _))
  | addabReg | subabReg | addabCst | subabCst | addahReg | subahReg | addahCst | subahCst | addawReg | subawReg
  | addawCst | subawCst => exact .issue (.putAddress rfl fun _ => rfl)
  | ldhu | ldbu | ldb | ldh | ldw | lddw => exact .issue (.loadLsr rfl)
  | ldhu15 | ldbu15 | ldb15 | ldh15 | ldw15 => exact .issue (.load15 rfl)
  | stb | sth | stw => exact .issue (.storeLsr rfl)
  | stb15 | sth15 | stw15 => exact .issue (.store15 rfl)
  | nop o => exact .issue (i := .nop o) (.requestNop ⟨o, .inl rfl⟩)
  | nop9 o => exact .issue (i := .nop9 o) (.requestNop ⟨⟨0, false⟩, .inr ⟨o, rfl⟩⟩)
  | idle o => exact .issue (i := .idle o) .requestIdle
  | mvcWrite o =>
    refine .issue ?_
    cases ctrlDest o.cr with
    | none => exact .fault _
    | some c => exact .putCtrl fun _ => rfl
  | bReg | bIrp | bNrp => exact .issue (.branchTo rfl rfl fun _ => rfl)
  | bDisp => exact .issue (.pendBranch rfl rfl fun _ => rfl)

/-- E1 that answers a next state: its effects, the same whatever else is in flight. -/
theorem exec_effects {i : Instr} {s u : State} (h : exec i s = .next u) :
    ∃ e : Effects, e.Of i ∧ (condHolds s i.demand.cond = true → e.Covers i) ∧
      ∀ f : Flight, exec i { s with flight := f } = .next (State.withEffects { s with flight := f } e) := by
  rcases exec_emits i s with hnever | ⟨e, ⟨hof, hcovers⟩, he⟩
  · exact (hnever s.flight u h).elim
  · exact ⟨e, hof, hcovers, he⟩

/-- Settles O8. -/
theorem instructionOnlyAddsItsEffects : Obligations.InstructionOnlyAddsItsEffects := by
  intro i s u h
  obtain ⟨e, he, -, heq⟩ := exec_effects h
  exact ⟨e, he.belongTo, heq⟩

/-- E1 of a packet started with any flight: the effects of its instructions, one after another. -/
theorem execAll_effects {ep : List Instr} {s t : State} {f : Flight} (h : execAll ep { s with flight := f } = .next t) :
    ∃ es : List Effects, List.Forall₂ (fun i e => exec i s = .next (s.withEffects e)) ep es ∧
      t = es.foldl State.withEffects { s with flight := f } := by
  induction ep generalizing f with
  | nil => exact ⟨[], .nil, next_eq_next.1 h⟩
  | cons i ep ih =>
    obtain ⟨u, hu, ht⟩ := execAll_cons_eq_next.1 h
    obtain ⟨e, -, -, he⟩ := exec_effects hu
    obtain rfl := next_eq_next.1 ((he f).symm.trans hu)
    obtain ⟨es, hes, rfl⟩ := ih ht
    exact ⟨e :: es, .cons (he s.flight) hes, rfl⟩

/-- Settles O9. -/
theorem packetReadsStartOfCycle : Obligations.PacketReadsStartOfCycle := fun _ _ _ h => execAll_effects h

/-- Settles O7: the condition is tested before the body of any instruction. -/
theorem falseConditionHasNoEffect : Obligations.FalseConditionHasNoEffect := by
  intro i s hwf
  have hnone : condHolds s i.demand.cond = false → exec i s = .next s := fun hc => by
    obtain ⟨body, hbody⟩ := exec_eq_issue i s
    rw [hbody, issue_of_not_cond hwf hc]
  exact ⟨fun r hr h0 => hnone (by simp [hr, condHolds, h0]), fun r hr h0 => hnone (by simpa [hr, condHolds] using h0)⟩

/-- Settles O29: NOP and IDLE have no condition and no operand, so they pass the guard on every VARIANT. -/
theorem nopAndIdleRequests : Obligations.NopAndIdleRequests := fun _ => ⟨fun _ => rfl, fun _ => rfl, fun _ => rfl⟩

end Sys2Proof.Machine

/-! PROOFS. The execute packet at pc (O51) and the constraints on it (O53; R153, R154, R162). -/
namespace Sys2Proof.Machine

/-! ### The words of a packet (R154) -/

/-- One word that is fetched and decodes: the packet ends with it when p = 0, and goes on behind it when p = 1. -/
theorem fetchFrom_succ_eq_ok {s : State} {a n : Nat} {ep : List Instr} (h : fetchFrom s a (n + 1) = .ok ep) :
    s.fetchable a = true ∧ ∃ i, decode (s.wordAt a) = .ok i ∧
      ((flag (s.wordAt a) 0 = false ∧ ep = [i]) ∨
       (flag (s.wordAt a) 0 = true ∧ ∃ is, fetchFrom s (a + 4) n = .ok is ∧ ep = i :: is)) := by
  simp only [fetchFrom] at h
  split at h
  · next ha =>
    refine ⟨ha, ?_⟩
    split at h
    · cases h
    · next i hi =>
      refine ⟨i, hi, ?_⟩
      split at h
      · next hp =>
        split at h
        · next is his => cases h; exact .inr ⟨hp, is, his, rfl⟩
        · cases h
      · next hp => cases h; exact .inl ⟨by simpa using hp, rfl⟩
  · cases h

/-- The `k`-th instruction of `ep` is what the word at `a + 4k` decodes to, and p = 0 in the last word only. -/
def IsRunFrom (s : State) (a : Nat) (ep : List Instr) : Prop :=
  ∀ (k : Nat) (h : k < ep.length), s.fetchable (a + 4 * k) = true ∧ decode (s.wordAt (a + 4 * k)) = .ok ep[k] ∧
    flag (s.wordAt (a + 4 * k)) 0 = decide (k + 1 < ep.length)

theorem IsRunFrom.singleton {s : State} {a : Nat} {i : Instr} (ha : s.fetchable a = true)
    (hi : decode (s.wordAt a) = .ok i) (hp : flag (s.wordAt a) 0 = false) : IsRunFrom s a [i] := by
  intro k hk
  obtain rfl : k = 0 := by simpa using hk
  exact ⟨ha, hi, by simpa using hp⟩

theorem IsRunFrom.cons {s : State} {a : Nat} {i : Instr} {is : List Instr} (ha : s.fetchable a = true)
    (hi : decode (s.wordAt a) = .ok i) (hp : flag (s.wordAt a) 0 = true) (hne : 1 ≤ is.length)
    (h : IsRunFrom s (a + 4) is) : IsRunFrom s a (i :: is) := by
  intro k hk
  cases k with
  | zero => exact ⟨ha, hi, by simpa [hp, Nat.lt_iff_add_one_le] using hne⟩
  | succ k =>
    have hk' : k < is.length := by simpa using hk
    have haddr : a + 4 * (k + 1) = a + 4 + 4 * k := by omega
    simpa [haddr] using h k hk'

/-- What `fetchFrom` reads up to the eighth word of the fetch packet at `q`, when that word does not have p = 1. -/
theorem fetchFrom_isRun {s : State} {q : Nat} (hq : s.crosses q = false) :
    ∀ {n a : Nat} {ep : List Instr}, a + 4 * n = q + 28 → fetchFrom s a (n + 1) = .ok ep →
      1 ≤ ep.length ∧ ep.length ≤ n + 1 ∧ IsRunFrom s a ep := by
  intro n
  induction n with
  | zero =>
    intro a ep haddr h
    obtain ⟨ha, i, hi, ⟨hp, rfl⟩ | ⟨hp, -⟩⟩ := fetchFrom_succ_eq_ok h
    · exact ⟨by simp, by simp, .singleton ha hi hp⟩
    · obtain rfl : a = q + 28 := by omega
      simp [State.crosses, ha, hp] at hq
  | succ n ih =>
    intro a ep haddr h
    obtain ⟨ha, i, hi, ⟨hp, rfl⟩ | ⟨hp, is, his, rfl⟩⟩ := fetchFrom_succ_eq_ok h
    · exact ⟨by simp, by simp, .singleton ha hi hp⟩
    · obtain ⟨hpos, hlen, hrun⟩ := ih (by omega) his
      exact ⟨by simp, by simpa using hlen, .cons ha hi hp hpos hrun⟩

/-- A fetch that answers a packet passed the checks of `fetch`. -/
theorem fetch_eq_ok {s : State} {ep : List Instr} (h : fetch s = .ok ep) :
    s.pc.toNat % 4 = 0 ∧ s.crosses (fetchPacket s.pc).toNat = false ∧
      fetchFrom s s.pc.toNat (((fetchPacket s.pc).toNat + 32 - s.pc.toNat) / 4) = .ok ep := by
  simp only [fetch] at h
  split at h
  · cases h
  · next hpc =>
    split at h
    · cases h
    · split at h
      · cases h
      · next hc => exact ⟨by simpa using hpc, by simpa using hc, h⟩

/-- Settles O51: the eighth word of the fetch packet is the last that `fetch` may read. -/
theorem fetchReadsWholePacket : Obligations.FetchReadsWholePacket := by
  intro s ep h
  obtain ⟨hpc, hc, h⟩ := fetch_eq_ok h
  rw [fetchPacket_toNat] at hc h
  have hcount : (s.pc.toNat / 32 * 32 + 32 - s.pc.toNat) / 4 = (7 - s.pc.toNat % 32 / 4) + 1 := by omega
  rw [hcount] at h
  obtain ⟨hpos, hlen, hrun⟩ := fetchFrom_isRun hc (by omega) h
  exact ⟨hpos, by omega, hrun⟩

/-- A word with p = 0 is a packet of its own. -/
theorem fetch_singleton {s : State} {i : Instr} (hpc : s.pc.toNat % 4 = 0) (ha : s.fetchable s.pc.toNat = true)
    (hc : s.crosses (fetchPacket s.pc).toNat = false) (hi : decode (s.wordAt s.pc.toNat) = .ok i)
    (hp : flag (s.wordAt s.pc.toNat) 0 = false) : fetch s = .ok [i] := by
  have hcount : ((fetchPacket s.pc).toNat + 32 - s.pc.toNat) / 4 = (7 - s.pc.toNat % 32 / 4) + 1 := by
    rw [fetchPacket_toNat]; omega
  simp [fetch, hpc, ha, hc, hcount, fetchFrom, hi, hp]

end Sys2Proof.Machine

/-! PROOFS. What lands in the registers (O31), and the branches that land (O39; R155 steps 5 and 6, R157). -/
namespace Sys2Proof.Machine

/-! ### Landing (R155 step 5) -/

theorem distinct_iff_nodup {ts : List Target} : distinct ts = true ↔ ts.Nodup := by
  induction ts with
  | nil => simp [distinct]
  | cons t ts ih => simp [distinct, ih]

/-- A general register is named by itself; only flags have a common name (log 25). -/
theorem Target.named_eq_gpr {t : Target} {side : Side} {r : RegNum} : t.named = .gpr side r ↔ t = .gpr side r := by
  unfold Target.named
  split <;> simp

theorem mem_dueWrites {s : State} {w : Write} : w ∈ s.dueWrites ↔ w ∈ s.flight.pw ∧ w.left = 0 := by
  simp [State.dueWrites]

/-- The state after the writes of a cycle have landed. -/
def State.landed (s : State) : State :=
  { s.dueWrites.foldl applyWrite s with flight := { s.flight with
    pw := (s.flight.pw.filter fun w => w.left != 0).map fun w => { w with left := w.left - 1 } } }

/-- Landing: its one stop, and the writes that are due. -/
theorem landWrites_eq (s : State) : landWrites s =
    if (s.dueWrites.map fun w => w.target.named).Nodup then .next s.landed else .fault .writeConflict := by
  have hstops : landWrites s = if distinct (s.dueWrites.map fun w => w.target.named) = true then .next s.landed
      else .fault .writeConflict := by
    simp only [landWrites, State.landed, foldl_applyWrite_flight]
    rfl
  simp only [hstops, distinct_iff_nodup]

/-- Two due writes that name one register are a conflict (R157). -/
theorem landWrites_of_conflict {s : State} {as bs : List Write} (h : s.flight.pw = as ++ bs) {v w : Write} (hv : v ∈ as)
    (hw : w ∈ bs) (hv0 : v.left = 0) (hw0 : w.left = 0) (hvw : v.target.named = w.target.named) :
    landWrites s = .fault .writeConflict := by
  rw [landWrites_eq, if_neg]
  intro hnodup
  rw [State.dueWrites, h, List.filter_append, List.map_append] at hnodup
  have hdisj := List.disjoint_of_nodup_append hnodup
  refine hdisj (a := v.target.named) (List.mem_map.2 ⟨v, ?_, rfl⟩) (List.mem_map.2 ⟨w, ?_, hvw.symm⟩)
  · exact List.mem_filter.2 ⟨hv, by simp [hv0]⟩
  · exact List.mem_filter.2 ⟨hw, by simp [hw0]⟩

/-! The registers after a list of writes. -/

theorem applyWrite_gpr_of_ne {s : State} {w : Write} {side : Side} {r : RegNum} (h : w.target ≠ .gpr side r) :
    (applyWrite s w).gpr side r = s.gpr side r := by
  unfold applyWrite
  split
  · next side' r' ht =>
    have hne : ¬ (side' = side ∧ r' = r) := by rintro ⟨rfl, rfl⟩; exact h ht
    simp [State.gpr, Regs.get_set, hne]
  · rfl

theorem applyWrite_gpr {s : State} {w : Write} {side : Side} {r : RegNum} (h : w.target = .gpr side r) :
    (applyWrite s w).gpr side r = w.value := by
  simp [applyWrite, h, State.gpr]

/-- A register that no write names keeps its value. -/
theorem foldl_applyWrite_gpr_of_ne {ws : List Write} {side : Side} {r : RegNum}
    (h : ∀ w ∈ ws, w.target ≠ .gpr side r) (s : State) : (ws.foldl applyWrite s).gpr side r = s.gpr side r := by
  induction ws generalizing s with
  | nil => rfl
  | cons w ws ih =>
    rw [List.foldl_cons, ih fun u hu => h u (by simp [hu]), applyWrite_gpr_of_ne (h w (by simp))]

/-- A register that exactly one write names gets its value. -/
theorem foldl_applyWrite_gpr {ws : List Write} (hnodup : (ws.map fun w => w.target.named).Nodup) {w : Write} (hw : w ∈ ws)
    {side : Side} {r : RegNum} (ht : w.target = .gpr side r) (s : State) :
    (ws.foldl applyWrite s).gpr side r = w.value := by
  obtain ⟨xs, ys, rfl⟩ := List.append_of_mem hw
  rw [List.map_append, List.map_cons, List.nodup_append] at hnodup
  obtain ⟨-, hys, -⟩ := hnodup
  have hlater : ∀ u ∈ ys, u.target ≠ .gpr side r := fun u hu hut =>
    (List.nodup_cons.1 hys).1 (List.mem_map.2 ⟨u, hu, by rw [hut, ht]⟩)
  rw [List.foldl_append, List.foldl_cons, foldl_applyWrite_gpr_of_ne hlater, applyWrite_gpr ht]

/-- What one write makes of the control registers. -/
def Ctrl.landWrite (c : Ctrl) (w : Write) : Ctrl :=
  match w.target with
  | .ctrl d => c.land d w.value
  | .gpr _ _ => c

theorem foldl_applyWrite_ctrl_eq (ws : List Write) (s : State) :
    (ws.foldl applyWrite s).ctrl = ws.foldl Ctrl.landWrite s.ctrl := by
  induction ws generalizing s with
  | nil => rfl
  | cons w ws ih =>
    have hw : (applyWrite s w).ctrl = s.ctrl.landWrite w := by
      unfold applyWrite Ctrl.landWrite
      cases w.target <;> rfl
    rw [List.foldl_cons, List.foldl_cons, ih, hw]

section
variable {s : State}

@[simp] theorem State.landed_params (s : State) : s.landed.params = s.params := foldl_applyWrite_params _ _
@[simp] theorem State.landed_pc (s : State) : s.landed.pc = s.pc := foldl_applyWrite_pc _ _
@[simp] theorem State.landed_pce1 (s : State) : s.landed.pce1 = s.pce1 := foldl_applyWrite_pce1 _ _
@[simp] theorem State.landed_mem (s : State) : s.landed.mem = s.mem := foldl_applyWrite_mem _ _
@[simp] theorem State.landed_env (s : State) : s.landed.env = s.env := foldl_applyWrite_env _ _
@[simp] theorem State.landed_flight (s : State) : s.landed.flight = { s.flight with
    pw := (s.flight.pw.filter fun w => w.left != 0).map fun w => { w with left := w.left - 1 } } := rfl

theorem State.landed_gpr_of_ne {side : Side} {r : RegNum} (h : ∀ w ∈ s.dueWrites, w.target ≠ .gpr side r) :
    s.landed.gpr side r = s.gpr side r := foldl_applyWrite_gpr_of_ne h s

theorem State.landed_ctrl_of_gprs (h : ∀ w ∈ s.dueWrites, ∀ c, w.target ≠ .ctrl c) : s.landed.ctrl = s.ctrl :=
  foldl_applyWrite_ctrl h s

/-- The control registers after the only due write to one of them. -/
theorem State.landed_ctrl_of_single {xs ys : List Write} {w : Write} {c : CtrlDest} (h : s.flight.pw = xs ++ w :: ys)
    (hw0 : w.left = 0) (hw : w.target = .ctrl c)
    (hothers : ∀ u ∈ xs ++ ys, u.left = 0 → ∀ d, u.target ≠ .ctrl d) : s.landed.ctrl = s.ctrl.land c w.value := by
  have hdue : s.dueWrites = xs.filter (fun u => u.left == 0) ++ w :: ys.filter (fun u => u.left == 0) := by
    simp [State.dueWrites, h, hw0]
  have hnone : ∀ {us : List Write}, us ⊆ xs ++ ys → ∀ u ∈ us.filter (fun u => u.left == 0), ∀ d, u.target ≠ .ctrl d :=
    fun hus u hu => by
      obtain ⟨hmem, h0⟩ := List.mem_filter.1 hu
      exact hothers u (hus hmem) (by simpa using h0)
  have happly : ∀ u : State, (applyWrite u w).ctrl = u.ctrl.land c w.value := fun u => by simp [applyWrite, hw]
  calc s.landed.ctrl = (s.dueWrites.foldl applyWrite s).ctrl := rfl
    _ = s.ctrl.land c w.value := by
      rw [hdue, List.foldl_append, List.foldl_cons, foldl_applyWrite_ctrl (hnone (List.subset_append_right xs ys)), happly,
        foldl_applyWrite_ctrl (hnone (List.subset_append_left xs ys))]

end

/-- Settles O31: landing applies the due writes one after another, unless two of them name one register. -/
theorem writesLandOrConflict : Obligations.WritesLandOrConflict := by
  intro s
  refine ⟨fun t ht => ?_, fun xs v ys w zs h hv0 hw0 hvw => ?_, fun h => ⟨s.landed, by rw [landWrites_eq]; exact if_pos h⟩⟩
  · rw [landWrites_eq] at ht
    split at ht
    · next hnodup =>
      obtain rfl := next_eq_next.1 ht
      refine ⟨fun w hw hw0 side r hwt => ?_, fun side r h => ?_, fun h => ?_, fun xs w ys c h hw0 hwt hothers => ?_, ?_,
        State.landed_mem s, State.landed_pc s, rfl⟩
      · exact foldl_applyWrite_gpr hnodup (mem_dueWrites.2 ⟨hw, hw0⟩) hwt s
      · exact State.landed_gpr_of_ne fun w hw => h w (mem_dueWrites.1 hw).1 (mem_dueWrites.1 hw).2
      · exact State.landed_ctrl_of_gprs fun w hw => h w (mem_dueWrites.1 hw).1 (mem_dueWrites.1 hw).2
      · exact State.landed_ctrl_of_single h hw0 hwt hothers
      · exact foldl_applyWrite_ctrl_eq s.dueWrites s
    · cases ht
  · exact landWrites_of_conflict h (List.mem_append_right xs (.head ys)) (.head zs) hv0 hw0 (congrArg _ hvw)

/-! ### Branches that land (R155 step 6) -/

/-- GIE takes the value of PGIE, and every other bit of CSR stays (R216, R356). -/
theorem returnIrp_bit (c : Ctrl) {j : Nat} (hj : j < 32) :
    (returnIrp c).csr.getLsbD j = c.csr.getLsbD (if j = 0 then 1 else j) := by
  simp only [returnIrp, BitVec.getLsbD_or, BitVec.getLsbD_and, BitVec.getLsbD_not, BitVec.getLsbD_ushiftRight,
    word_one_bit j hj]
  by_cases h0 : j = 0
  · subst h0; simp
  · simp [h0, hj]

/-- NMIE is set, and every other bit of IER stays (R217, R357). -/
theorem returnNrp_bit (c : Ctrl) {j : Nat} (hj : j < 32) :
    (returnNrp c).ier.getLsbD j = (decide (j = 1) || c.ier.getLsbD j) := by
  rw [returnNrp, BitVec.getLsbD_or, word_two_bit j hj, Bool.or_comm]

/-- The state after R155 step 6 when no branch lands. -/
theorem branchPhase_of_none {s : State} {next : Word} (h : ∀ b ∈ s.flight.pb, b.left ≠ 0) :
    branchPhase s next = .next { s with
      pc := next, flight := { s.flight with pb := s.flight.pb.map fun b => { b with left := b.left - 1 } } } := by
  have hdue : s.flight.pb.filter (fun b => b.left == 0) = [] := List.filter_eq_nil_iff.2 (by simpa using h)
  have hrest : s.flight.pb.filter (fun b => b.left != 0) = s.flight.pb := List.filter_eq_self.2 (by simpa using h)
  simp only [branchPhase, hdue, hrest]

/-- The state after R155 step 6 when exactly one branch lands. -/
theorem branchPhase_of_single {s : State} {next : Word} {xs ys : List Branch} {b : Branch}
    (h : s.flight.pb = xs ++ b :: ys) (hb : b.left = 0) (hothers : ∀ c ∈ xs ++ ys, c.left ≠ 0) :
    branchPhase s next = .next { s with
      pc := b.target, ctrl := s.ctrl.afterBranch b.kind
      flight := { s.flight with
        pb := (xs ++ ys).map fun c => { c with left := c.left - 1 }, nopcnt := 0, nopreq := 0 } } := by
  obtain ⟨hxs, hys⟩ := List.forall_mem_append.1 hothers
  have hnone : ∀ {cs : List Branch}, (∀ c ∈ cs, c.left ≠ 0) →
      cs.filter (fun c => c.left == 0) = [] ∧ cs.filter (fun c => c.left != 0) = cs := fun hcs =>
    ⟨List.filter_eq_nil_iff.2 (by simpa using hcs), List.filter_eq_self.2 (by simpa using hcs)⟩
  have hdue : s.flight.pb.filter (fun c => c.left == 0) = [b] := by simp [h, hb, hnone hxs, hnone hys]
  have hrest : s.flight.pb.filter (fun c => c.left != 0) = xs ++ ys := by simp [h, hb, hnone hxs, hnone hys]
  simp only [branchPhase, hdue, hrest]

/-- Two branches that are due are a conflict. -/
theorem branchPhase_of_two {s : State} {next : Word} {xs ys zs : List Branch} {b c : Branch}
    (h : s.flight.pb = xs ++ b :: ys ++ c :: zs) (hb : b.left = 0) (hc : c.left = 0) :
    branchPhase s next = .fault .branchConflict := by
  have hlen : 2 ≤ (s.flight.pb.filter fun b => b.left == 0).length := by
    simp [h, hb, hc]
    omega
  unfold branchPhase
  simp only
  split
  · next hd => simp [hd] at hlen
  · next hd => simp [hd] at hlen
  · rfl

/-- Settles O39: no branch, one branch or two branches are due. -/
theorem branchLands : Obligations.BranchLands := by
  intro s next
  refine ⟨branchPhase_of_none, fun xs b ys h hb hothers => ?_, fun xs b ys c zs => branchPhase_of_two⟩
  refine ⟨_, branchPhase_of_single h hb hothers, rfl, rfl, rfl, rfl, rfl, rfl, fun hk => ?_, fun hk => ?_, fun hk => ?_⟩
  · simp only [hk, Ctrl.afterBranch]
  · simp only [hk, Ctrl.afterBranch]
    exact ⟨rfl, fun j hj => returnIrp_bit s.ctrl hj⟩
  · simp only [hk, Ctrl.afterBranch]
    exact ⟨rfl, fun j hj => returnNrp_bit s.ctrl hj⟩

end Sys2Proof.Machine

/-! PROOFS. The constraints on an execute packet (O53; R162). -/
namespace Sys2Proof.Machine

/-! ### The constraints as statements (R162) -/

theorem unitsOk_iff {ds : List Demand} : unitsOk ds = true ↔ ds.Pairwise fun d e => d.unit = none ∨ d.unit ≠ e.unit := by
  induction ds with
  | nil => simp [unitsOk]
  | cons d ds ih =>
    cases hd : d.unit <;> simp [unitsOk, ih, hd]

theorem allSides_iff {p : Side → Bool} : [Side.a, Side.b].all p = true ↔ ∀ side, p side = true := by
  simp only [List.all_cons, List.all_nil, Bool.and_true, Bool.and_eq_true]
  exact ⟨fun ⟨ha, hb⟩ side => by cases side <;> assumption, fun h => ⟨h .a, h .b⟩⟩

theorem crossOk_iff {ds : List Demand} :
    crossOk ds = true ↔ ∀ side, count (fun d => d.cross == some side) ds ≤ 1 := by
  simp only [crossOk, allSides_iff, decide_eq_true_iff]

theorem dataOk_iff {ds : List Demand} :
    dataOk ds = true ↔ ∀ side, count (fun d => d.data.any fun t => t.side == side) ds ≤ 1 := by
  simp only [dataOk, allSides_iff, decide_eq_true_iff]

theorem longOn_iff {side : Side} {us : List RegUse} :
    longOn side us = true ↔ ∃ u ∈ us, u.side = side ∧ u.size = .long := by
  simp [longOn]

/-- The data register of a load or store is stored from a side. -/
def storesFrom (d : Demand) (side : Side) : Prop := ∃ t, d.data = some t ∧ t.side = side ∧ t.store = true

theorem longOk_iff {ds : List Demand} : longOk ds = true ↔ ∀ side,
    count (fun d => longOn side d.writes) ds ≤ 1 ∧ count (fun d => longOn side d.reads) ds ≤ 1 ∧
      ¬ ((∃ d ∈ ds, longOn side d.reads = true) ∧ ∃ e ∈ ds, storesFrom e side) := by
  simp only [longOk, allSides_iff, Bool.and_eq_true, decide_eq_true_iff, and_assoc, Bool.not_eq_true',
    ← Bool.not_eq_true, List.any_eq_true, Option.any_eq_true, beq_iff_eq, storesFrom, not_and_or]

theorem readsOk_iff {ds : List Demand} :
    readsOk ds = true ↔ ∀ r ∈ ds.flatMap Demand.readRegs, (ds.flatMap Demand.readRegs).count r ≤ 4 := by
  simp only [readsOk, List.all_eq_true, decide_eq_true_iff]

theorem resourcesOk_iff {ep : List Instr} : resourcesOk ep = true ↔ unitsOk (ep.map Instr.demand) = true ∧
    crossOk (ep.map Instr.demand) = true ∧ dataOk (ep.map Instr.demand) = true ∧
    longOk (ep.map Instr.demand) = true ∧ readsOk (ep.map Instr.demand) = true := by
  simp only [resourcesOk, Bool.and_eq_true, and_assoc]

/-! ### What the instructions ask for -/

/-- A register of an operand is on the side of the operand. -/
theorem side_eq_of_mem_regs {u : RegUse} {side : Side} {r : RegNum} (h : (side, r) ∈ u.regs) : u.side = side := by
  unfold RegUse.regs at h
  split at h <;> simp only [List.mem_cons, List.not_mem_nil, or_false, Prod.mk.injEq, ← and_or_left] at h <;> exact h.1.symm

/-- A store of format LSR reads words, at most three of them; a load reads at most two. -/
theorem storeDemand_reads (o : MemForm) :
    (∀ u ∈ o.storeDemand.reads, u.size = .word) ∧ o.storeDemand.reads.length ≤ 3 := by
  cases ho : o.mode.offset <;> simp [MemForm.storeDemand, Offset.reads, ho]

theorem loadDemand_reads_length (o : MemForm) (d : Size) : (o.loadDemand d).reads.length ≤ 2 := by
  cases ho : o.mode.offset <;> simp [MemForm.loadDemand, Offset.reads, ho]

/-- An instruction reads at most two operands; a store may read three. -/
theorem reads_length_le (i : Instr) :
    i.demand.reads.length ≤ 2 ∨ i.demand.reads.length ≤ 3 ∧ ∀ u ∈ i.demand.reads, u.size = .word := by
  cases i with
  | ldhu o | ldbu o | ldb o | ldh o | ldw o | lddw o => exact .inl (loadDemand_reads_length o _)
  | stb o | sth o | stw o => exact .inr (storeDemand_reads o).symm
  | _ => exact .inl (Nat.le_of_ble_eq_true rfl)

/-- A store reads no long (R288). -/
theorem store_reads_words {i : Instr} {side : Side} (h : i.demand.data = some ⟨side, true⟩) :
    ∀ u ∈ i.demand.reads, u.size = .word := by
  cases i with
  | stb o | sth o | stw o => exact (storeDemand_reads o).1
  | stb15 o | sth15 o | stw15 o => simp [Instr.demand, Mem15Form.storeDemand]
  | _ => nomatch h

/-- A multiply writes on the side of its unit (R113). -/
theorem multiply_writes_side {i : Instr} {side : Side} (h : i.demand.unit = some (.m, side)) :
    ∀ u ∈ i.demand.writes, u.side = side := by
  cases i with
  | mpyh | mpyhsu | mpyhus | mpyhu | mpyhl | mpyhslu | mpyhuls | mpyhlu | mpylh | mpylshu | mpyluhs | mpylhu
  | mpyReg | mpysuReg | mpyus | mpyu | smpy | smpyh | smpyhl | smpylh | mpyCst | mpysuCst =>
    cases h; exact List.forall_mem_singleton.2 rfl
  | _ => nomatch h

/-- A load writes its data on the side of its data path (R118). -/
theorem load_data_side {i : Instr} {side : Side} (h : i.demand.data = some ⟨side, false⟩) :
    ∀ u ∈ i.demand.writes.getLast?, u.side = side := by
  cases i with
  | ldhu o | ldbu o | ldb o | ldh o | ldw o | lddw o =>
    cases h; simp [Instr.demand, MemForm.loadDemand]
  | ldhu15 o | ldbu15 o | ldb15 o | ldh15 o | ldw15 o => cases h; simp [Instr.demand, Mem15Form.loadDemand]
  | _ => nomatch h

/-- When a register lands: at once, or after the delay slot of a multiply or the four of a load, whose unit and whose data
path are on its side. -/
theorem landing_delay {i : Instr} {n : Nat} {side : Side} {r : RegNum} (h : (n, side, r) ∈ landings i.demand) :
    n = 0 ∨ (n = mulDelay ∧ i.demand.unit = some (.m, side)) ∨
      (n = loadDelay ∧ ∃ p, i.demand.data = some p ∧ p.side = side) := by
  unfold landings at h
  simp only at h
  split at h
  · next q hunit =>
    simp only [List.mem_map, List.mem_flatMap, Prod.mk.injEq] at h
    obtain ⟨_, ⟨u, hu, hr⟩, rfl, rfl⟩ := h
    have hq : q = side := (multiply_writes_side hunit u hu).symm.trans (side_eq_of_mem_regs hr)
    exact .inr (.inl ⟨rfl, hq ▸ hunit⟩)
  · next q hdata _ =>
    simp only [List.mem_append, List.mem_map, List.mem_flatMap, Prod.mk.injEq] at h
    rcases h with ⟨-, -, rfl, -⟩ | ⟨_, ⟨u, hu, hr⟩, rfl, rfl⟩
    · exact .inl rfl
    · have hq : q = side :=
        (load_data_side hdata u (by simpa using hu)).symm.trans (side_eq_of_mem_regs hr)
      exact .inr (.inr ⟨rfl, _, hdata, hq⟩)
  · simp only [List.mem_map, Prod.mk.injEq] at h
    obtain ⟨-, -, rfl, -⟩ := h
    exact .inl rfl

/-! ### One instruction alone -/

/-- A long source takes two registers, a word one. -/
theorem regs_length_le (u : RegUse) : u.regs.length ≤ 2 ∧ (u.size = .word → u.regs.length = 1) := by
  unfold RegUse.regs
  split <;> simp_all

theorem length_flatMap_regs_le {us : List RegUse} {n : Nat} (h : ∀ u ∈ us, u.regs.length ≤ n) :
    (us.flatMap RegUse.regs).length ≤ us.length * n := by
  rw [List.length_flatMap]
  simpa using List.sum_le_card_nsmul (us.map fun u => u.regs.length) n (by simpa using h)

/-- One instruction reads at most four registers, so none of them more than four times. -/
theorem readRegs_length_le (i : Instr) : (Demand.readRegs i.demand).length ≤ 4 := by
  unfold Demand.readRegs
  rcases reads_length_le i with h | ⟨h, hword⟩
  · have := length_flatMap_regs_le (us := i.demand.reads) fun u _ => (regs_length_le u).1
    omega
  · have := length_flatMap_regs_le (us := i.demand.reads) fun u hu => ((regs_length_le u).2 (hword u hu)).le
    omega

theorem count_singleton_le {α : Type} (p : α → Bool) (x : α) : count p [x] ≤ 1 := List.length_filter_le p [x]

/-- One instruction alone breaks no constraint (R162). -/
theorem packetOk_singleton (i : Instr) (s : State) : packetOk s [i] = true := by
  refine packetOk_iff.2 ⟨resourcesOk_iff.2 ⟨by simp [unitsOk], ?_, ?_, ?_, ?_⟩, by simp [sharedWritesOk]⟩
  · exact crossOk_iff.2 fun _ => count_singleton_le _ _
  · exact dataOk_iff.2 fun _ => count_singleton_le _ _
  · refine longOk_iff.2 fun side => ⟨count_singleton_le _ _, count_singleton_le _ _, ?_⟩
    simp only [List.map_cons, List.map_nil, List.mem_singleton, exists_eq_left, longOn_iff]
    rintro ⟨⟨u, hu, -, hlong⟩, ⟨q, _⟩, hdata, -, rfl⟩
    have hword := store_reads_words hdata u hu
    rw [hlong] at hword
    cases hword
  · refine readsOk_iff.2 fun r _ => List.count_le_length.trans ?_
    simpa using readRegs_length_le i

/-! ### Two instructions of a packet -/

/-- A packet that breaks a constraint stops before E1 (R155 step 3). -/
theorem runPacket_of_not_packetOk {r : Word} {ep : List Instr} {s : State} (h : packetOk s ep ≠ true) :
    runPacket r ep s = .fault .resourceConflict := if_neg h

section
variable {α : Type} {xs ys zs : List α} {x y : α}

theorem rel_of_pairwise {R : α → α → Prop} (h : (xs ++ x :: ys ++ y :: zs).Pairwise R) : R x y :=
  (List.pairwise_append.1 h).2.2 x (by simp) y (by simp)

theorem not_both_of_count_le_one {p : α → Bool} (h : count p (xs ++ x :: ys ++ y :: zs) ≤ 1) (hx : p x = true) :
    p y ≠ true := fun hy => by
  simp only [count, List.filter_append, List.filter_cons, hx, hy, if_true, List.length_append, List.length_cons] at h
  omega

end

/-- A condition depends on the general registers only (R160). -/
theorem condHolds_congr {s t : State} (h : s.regs = t.regs) (c : Cond) : condHolds s c = condHolds t c := by
  cases c <;> simp only [condHolds, gpr_congr h]

theorem execAll_append_eq_next {is js : List Instr} {s t : State} :
    execAll (is ++ js) s = .next t ↔ ∃ u, execAll is s = .next u ∧ execAll js u = .next t := by
  induction is generalizing s with
  | nil => exact ⟨fun h => ⟨s, rfl, h⟩, fun ⟨u, hu, h⟩ => by cases hu; exact h⟩
  | cons i is ih =>
    simp only [List.cons_append, execAll_cons_eq_next, ih]
    exact ⟨fun ⟨u, hu, v, hv, h⟩ => ⟨v, ⟨u, hu, hv⟩, h⟩, fun ⟨v, ⟨u, hu, hv⟩, h⟩ => ⟨u, hu, v, hv, h⟩⟩

/-- E1 of a packet puts in flight the write of each register that an instruction with a true condition writes without delay
slots. -/
theorem execAll_writes {ep : List Instr} {s t : State} (h : execAll ep s = .next t) {i : Instr} (hi : i ∈ ep)
    (hc : condHolds s i.demand.cond = true) {side : Side} {r : RegNum} (hr : (0, side, r) ∈ landings i.demand) :
    t.regs = s.regs ∧ ∃ ws, t.flight.pw = s.flight.pw ++ ws ∧ ∃ w ∈ ws, w.target = .gpr side r ∧ w.left = 0 := by
  obtain ⟨xs, ys, rfl⟩ := List.append_of_mem hi
  obtain ⟨u, hu, h⟩ := execAll_append_eq_next.1 h
  obtain ⟨v, hv, h⟩ := execAll_cons_eq_next.1 h
  obtain ⟨e, rfl, -⟩ := execAll_eq_next xs hu
  obtain ⟨f, -, hcovers, hf⟩ := exec_effects hv
  obtain rfl := next_eq_next.1 ((hf (s.withEffects e).flight).symm.trans hv)
  obtain ⟨g, rfl, -⟩ := execAll_eq_next ys h
  obtain ⟨w, hw, hwr⟩ := hcovers hc side r hr
  exact ⟨rfl, e.writes ++ f.writes ++ g.writes, by simp, w, by simp [hw], hwr⟩

/-- The memory phase keeps every pending write and adds those of the loads. -/
theorem memPhase_pw {s t : State} (h : memPhase s = .next t) :
    t.flight.pw = s.flight.pw ++ s.dueLoads.flatMap (loadWrites s) := by
  obtain ⟨-, -, -, rfl⟩ := memPhase_eq_next h
  rfl

/-- Two instructions with true conditions that write one register without delay slots: the packet does not answer a next
state (R157). -/
theorem runPacket_ne_next_of_shared_write {w : Word} {xs ys zs : List Instr} {i j : Instr} {s t : State} {side : Side}
    {r : RegNum} (hi : (0, side, r) ∈ landings i.demand) (hj : (0, side, r) ∈ landings j.demand)
    (hci : condHolds s i.demand.cond = true) (hcj : condHolds s j.demand.cond = true) :
    runPacket w (xs ++ i :: ys ++ j :: zs) s ≠ .next t := by
  intro h
  obtain ⟨-, u, hu, hend⟩ := runPacket_eq_next h
  obtain ⟨v, hv, hu⟩ := execAll_append_eq_next.1 hu
  obtain ⟨hregs, ws, hws, wi, hwi, hit, hi0⟩ := execAll_writes hv (i := i) (by simp) hci hi
  have hcj' : condHolds v j.demand.cond = true := (condHolds_congr hregs _).trans hcj
  obtain ⟨-, qs, hqs, wj, hwj, hjt, hj0⟩ := execAll_writes hu (i := j) (by simp) hcj' hj
  obtain ⟨x, y, -, hx, hy, -⟩ := endOfCycle_eq_next.1 hend
  have hpw := memPhase_pw hx
  rw [hqs, hws, List.append_assoc _ qs] at hpw
  obtain ⟨z, hz, -⟩ := landPhase_eq_next hy
  have hconflict := landWrites_of_conflict hpw (List.mem_append_right _ hwi) (List.mem_append_left _ hwj) hi0 hj0
    (by rw [hit, hjt])
  rw [hconflict] at hz
  cases hz

/-- Two instructions of a packet without a conflict of resources that write one register do so without delay slots: two
multiplies would share a unit, two loads a data path. -/
theorem shared_landing_zero {xs ys zs : List Instr} {i j : Instr} (hok : resourcesOk (xs ++ i :: ys ++ j :: zs) = true)
    {n : Nat} {side : Side} {r : RegNum} (hi : (n, side, r) ∈ landings i.demand) (hj : (n, side, r) ∈ landings j.demand) :
    n = 0 := by
  obtain ⟨hunits, -, hdata, -, -⟩ := resourcesOk_iff.1 hok
  simp only [List.map_append, List.map_cons] at hunits hdata
  rcases landing_delay hi with rfl | ⟨rfl, hui⟩ | ⟨rfl, p, hp, hps⟩
  · rfl
  · rcases landing_delay hj with h | ⟨-, huj⟩ | ⟨h, -⟩
    · exact h
    · have hne := rel_of_pairwise (unitsOk_iff.1 hunits)
      simp [hui, huj] at hne
    · cases h
  · rcases landing_delay hj with h | ⟨h, -⟩ | ⟨-, q, hq, hqs⟩
    · exact h
    · cases h
    · exact absurd (by simp [hq, hqs]) (not_both_of_count_le_one (dataOk_iff.1 hdata side) (by simp [hp, hps]))

/-- Conditions that no state makes both true test one register, for zero and for not zero. -/
theorem excludes_eq_false {c d : Cond}
    (h : ∀ q, ¬ (c = .ifZero q ∧ d = .ifNonzero q) ∧ ¬ (c = .ifNonzero q ∧ d = .ifZero q)) : excludes c d = false := by
  unfold excludes
  split
  · next q p => exact beq_eq_false_iff_ne.2 fun hqp => (h q).1 ⟨rfl, by rw [hqp]⟩
  · next q p => exact beq_eq_false_iff_ne.2 fun hqp => (h q).2 ⟨rfl, by rw [hqp]⟩
  · rfl

/-- A packet that passes the check: two instructions that meet in a register both have a true condition. -/
theorem condHolds_of_shared_write {xs ys zs : List Instr} {i j : Instr} {s : State}
    (hok : packetOk s (xs ++ i :: ys ++ j :: zs) = true) {x : Nat × Side × RegNum} (hi : x ∈ landings i.demand)
    (hj : x ∈ landings j.demand) (hc : excludes i.demand.cond j.demand.cond = false) :
    condHolds s i.demand.cond = true ∧ condHolds s j.demand.cond = true := by
  have hpair := sharedWritesOk_iff.1 (packetOk_iff.1 hok).2
  simp only [List.map_append, List.map_cons] at hpair
  refine rel_of_pairwise hpair ?_
  simp only [writesMeet, hc, Bool.not_false, Bool.true_and, List.any_eq_true]
  exact ⟨x, hi, by simpa using hj⟩

/-- Settles O53: the pairs of item 6, then the other five items one by one. -/
theorem resourceConflictsFault : Obligations.ResourceConflictsFault := by
  refine ⟨packetOk_singleton, fun w s xs ys zs i j => ⟨fun x hi hj hconds => ?_, ?_⟩⟩
  · have hmeet := fun hok => condHolds_of_shared_write (xs := xs) (ys := ys) (zs := zs) (s := s) hok hi hj
      (excludes_eq_false hconds)
    refine ⟨fun hfalse => runPacket_of_not_packetOk fun hok => ?_, fun t ht => ?_⟩
    · obtain ⟨hci, hcj⟩ := hmeet hok
      simp [hci, hcj] at hfalse
    · obtain ⟨hok, -⟩ := runPacket_eq_next ht
      obtain ⟨hci, hcj⟩ := hmeet hok
      obtain ⟨n, side, r⟩ := x
      obtain rfl := shared_landing_zero (packetOk_iff.1 hok).1 hi hj
      exact runPacket_ne_next_of_shared_write hi hj hci hcj ht
  · intro long hbroken
    refine runPacket_of_not_packetOk fun hok => ?_
    obtain ⟨hunits, hcross, hdata, hlong, hreads⟩ := resourcesOk_iff.1 (packetOk_iff.1 hok).1
    rw [readsOk_iff] at hreads
    simp only [List.map_append, List.map_cons] at hunits hcross hdata hlong
    rcases hbroken with ⟨hne, heq⟩ | ⟨hne, heq⟩ | ⟨d, e, hd, he, hde⟩ | ⟨side, hi, hj⟩ | ⟨side, hi, hj⟩ | ⟨d, hi, hd, hst⟩ |
      ⟨d, hj, hd, hst⟩ | ⟨q, hq⟩
    · exact (rel_of_pairwise (unitsOk_iff.1 hunits)).elim hne (absurd heq)
    · obtain ⟨side, hside⟩ := Option.ne_none_iff_exists'.1 hne
      exact not_both_of_count_le_one (crossOk_iff.1 hcross side) (by simp [hside]) (by simp [← heq, hside])
    · exact not_both_of_count_le_one (dataOk_iff.1 hdata e.side) (by simp [hd, hde]) (by simp [he])
    · exact not_both_of_count_le_one (longOk_iff.1 hlong side).1 (longOn_iff.2 hi) (longOn_iff.2 hj)
    · exact not_both_of_count_le_one (longOk_iff.1 hlong side).2.1 (longOn_iff.2 hi) (longOn_iff.2 hj)
    · exact (longOk_iff.1 hlong d.side).2.2 ⟨⟨_, by simp, longOn_iff.2 hi⟩, ⟨j.demand, by simp, d, hd, rfl, hst⟩⟩
    · exact (longOk_iff.1 hlong d.side).2.2 ⟨⟨_, by simp, longOn_iff.2 hj⟩, ⟨i.demand, by simp, d, hd, rfl, hst⟩⟩
    · have hregs : ((xs ++ i :: ys ++ j :: zs).map Instr.demand).flatMap Demand.readRegs =
          (xs ++ i :: ys ++ j :: zs).flatMap fun k => k.demand.reads.flatMap RegUse.regs := List.flatMap_map _ _ _
      rw [hregs] at hreads
      exact absurd (hreads q (List.count_pos_iff.1 (by omega))) (by omega)

end Sys2Proof.Machine

/-! PROOFS. Whole steps: the packet at pc (O10, O48, O49), cycles without a packet (O50), and what lands in a waiting machine
(O33, O41; R155). -/
namespace Sys2Proof.Machine

/-! ### Phases in which nothing is due -/

@[simp] theorem raiseFlags_zero (s : State) : raiseFlags s 0 = s := by
  simp [raiseFlags]

theorem memPhase_of_no_access {s : State} (hl : s.flight.pmLoads = []) (hs : s.flight.pmStores = []) :
    memPhase s = .next s := by
  rw [memPhase_of_accessible (by simp [State.dueLoads_of_none hl]) (by simp [State.dueStores_of_none hs])]
  simp [State.accessed, State.dueLoads_of_none hl, State.dueStores_of_none hs, disjointStores, hl, hs,
    Flight.with_no_access hl hs]

/-- R155 step 5, when the due writes name different registers. -/
theorem landPhase_of_nodup {s : State} (h : (s.dueWrites.map fun w => w.target.named).Nodup) (r : Word) :
    landPhase s r = .next (raiseFlags (landSat s.landed) r) := by
  rw [landPhase, landWrites_eq, if_pos h, andThen_next]

/-- R155 steps 5 to 7, when no access and no branch is in flight. -/
theorem endOfCycle_of_writes {s : State} (hl : s.flight.pmLoads = []) (hs : s.flight.pmStores = [])
    (hb : s.flight.pb = []) (hd : (s.dueWrites.map fun w => w.target.named).Nodup) (r next : Word) (branched : Bool) :
    endOfCycle r next branched s =
      .next (closeCycle branched { raiseFlags (landSat s.landed) r with pc := next }) := by
  have hland := landPhase_of_nodup hd r
  have hbranch := branchPhase_of_none (s := raiseFlags (landSat s.landed) r) (next := next) (by simp [hb])
  simp only [endOfCycle, memPhase_of_no_access hl hs, andThen_next, hland, hbranch]
  simp [hb, closeCycle]

theorem Flight.drained_iff {f : Flight} :
    f.drained = true ↔ f.pw = [] ∧ f.pmLoads = [] ∧ f.pmStores = [] ∧ f.psat = [] := by
  simp [Flight.drained, and_assoc]

/-- With nothing in flight but branches, only requests and branches land. -/
theorem endOfCycle_of_drained {s : State} (h : s.flight.drained = true) (r next : Word) (branched : Bool) :
    endOfCycle r next branched s =
      andThen (branchPhase (raiseFlags s r) next) fun t => .next (closeCycle branched t) := by
  obtain ⟨hpw, hl, hs, hsat⟩ := Flight.drained_iff.1 h
  have hdue : s.dueWrites = [] := by simp [State.dueWrites, hpw]
  have hflight : { s.flight with pw := [], psat := [] } = s.flight := by rw [← hpw, ← hsat]
  have hland : landSat s.landed = s := by simp [landSat, State.landed, hdue, hpw, hsat, hflight]
  rw [endOfCycle, memPhase_of_no_access hl hs, andThen_next, landPhase_of_nodup (by simp [hdue]), hland, andThen_next]

/-- With nothing in flight at all, only requests land. -/
theorem endOfCycle_of_empty {s : State} (h : s.flight.drained = true) (hb : s.flight.pb = []) (r next : Word)
    (branched : Bool) :
    endOfCycle r next branched s = .next (closeCycle branched { raiseFlags s r with pc := next }) := by
  rw [endOfCycle_of_drained h, branchPhase_of_none (by simp [hb])]
  simp [hb, closeCycle]

/-! ### Cycles without a packet (O50) -/

/-- An idle cycle executes no packet (R155 step 2, R166). -/
theorem step_of_idle {s : State} (hu : s.undisturbed) (hidle : s.flight.idle = true) :
    step s = endOfCycle s.input.requests s.pc false (raiseFlags s.advanceEnv s.input.requests) :=
  (step_of_undisturbed hu).trans (if_pos hidle)

/-- A cycle of a multi-cycle NOP executes no packet and counts down (R155 step 2, R165). -/
theorem step_of_nop {s : State} (hu : s.undisturbed) (hidle : s.flight.idle = false) (hnop : s.flight.nopcnt ≠ 0) :
    step s = endOfCycle s.input.requests s.pc false { raiseFlags s.advanceEnv s.input.requests with
      flight := { s.flight with nopcnt := s.flight.nopcnt - 1 } } := by
  have hnotIdle : ¬ (raiseFlags s.advanceEnv s.input.requests).flight.idle = true := by simp [hidle]
  exact (step_of_undisturbed hu).trans ((if_neg hnotIdle).trans (if_pos hnop))

/-- Settles O50: with nothing in flight such a cycle raises flags and ends. -/
theorem nopAndIdleCycles : Obligations.NopAndIdleCycles := by
  intro s k hu hdrained hpb hreq hidlereq
  refine ⟨fun hidle => ?_, fun hidle hcnt => ?_⟩
  · rw [step_of_idle hu hidle, endOfCycle_of_empty (by exact hdrained) (by exact hpb)]
    exact ⟨_, rfl, by simp [hidle], rfl, rfl, rfl, rfl⟩
  · rw [step_of_nop hu hidle (by simp [hcnt]), endOfCycle_of_empty (by exact hdrained) (by exact hpb)]
    exact ⟨_, rfl, by simp [hcnt, hreq], rfl, rfl, rfl, rfl⟩

/-! ### The packet at pc (O48) -/

/-- A step that fetches a packet runs it. -/
theorem step_of_fetch {s : State} {ep : List Instr} (hu : s.undisturbed) (hidle : s.flight.idle = false)
    (hnop : s.flight.nopcnt = 0) (hf : fetch s = .ok ep) :
    step s = runPacket s.input.requests ep (raiseFlags s.advanceEnv s.input.requests) := by
  have hsame : fetch (raiseFlags s.advanceEnv s.input.requests) = fetch s := fetch_congr rfl rfl rfl
  simp [step_of_undisturbed hu, executeCycle, hidle, hnop, hsame, hf]

/-- A packet of one instruction. -/
theorem runPacket_singleton (r : Word) (i : Instr) (s : State) : runPacket r [i] s =
    andThen (exec i { s with pce1 := fetchPacket s.pc }) (endOfCycle r (s.pc + 4) i.demand.branch) := by
  have hexec : ∀ t, execAll [i] t = exec i t := fun t => by
    rw [execAll]
    cases exec i t <;> rfl
  rw [runPacket, if_pos (packetOk_singleton i s), hexec]
  simp

/-- Settles O48. -/
theorem stepRunsDecodedInstruction : Obligations.StepRunsDecodedInstruction := by
  intro s i hu hidle hnop hpc ha hc hi hp
  rw [step_of_fetch hu hidle hnop (fetch_singleton hpc ha hc hi hp), runPacket_singleton]
  rfl

/-- One write that is due, with nothing else in flight: its register gets the value. -/
theorem State.landed_of_single {s : State} {side : Side} {r : RegNum} {v : Word} (h : s.flight.pw = [⟨.gpr side r, v, 0⟩]) :
    (s.dueWrites.map fun w => w.target.named).Nodup ∧ s.landed.flight.pw = [] ∧
      s.landed.regs = s.regs.set side r v ∧ s.landed.ctrl = s.ctrl := by
  have hdue : s.dueWrites = [⟨.gpr side r, v, 0⟩] := by simp [State.dueWrites, h]
  simp [State.landed, hdue, h, applyWrite]

/-- The end of a cycle in which one write is due and nothing else is in flight. -/
theorem endOfCycle_of_single {s : State} {side : Side} {r : RegNum} {v : Word} (hpw : s.flight.pw = [⟨.gpr side r, v, 0⟩])
    (hpb : s.flight.pb = []) (hl : s.flight.pmLoads = []) (hst : s.flight.pmStores = []) (hsat : s.flight.psat = [])
    (next : Word) (branched : Bool) : ∃ t, endOfCycle 0 next branched s = .next t ∧
      t.regs = s.regs.set side r v ∧ t.ctrl = s.ctrl ∧ t.mem = s.mem ∧ t.pc = next ∧ t.pce1 = s.pce1 := by
  obtain ⟨hnodup, -, hregs, hctrl⟩ := State.landed_of_single hpw
  exact ⟨_, endOfCycle_of_writes hl hst hpb hnodup 0 next branched, hregs, by simp [hctrl, hsat], by simp, rfl, by simp⟩

/-- Settles O49: the write is the only one due, and nothing else is in flight. -/
theorem registerResultAfterOneStep : Obligations.RegisterResultAfterOneStep := by
  intro s i side r v hs hu hreq hf hexec
  obtain ⟨hpw, hpb, hl, hst, hsat, hnop, -, hidle, -⟩ := hs
  have hrun := hexec { s.advanceEnv with pce1 := fetchPacket s.pc } rfl rfl rfl rfl
  have hstep : step s = endOfCycle 0 (s.pc + 4) i.demand.branch
      (State.putWord { s.advanceEnv with pce1 := fetchPacket s.pc } side r v 0) := by
    rw [step_of_fetch hu hidle hnop hf, hreq, raiseFlags_zero, runPacket_singleton]
    exact congrArg (andThen · _) hrun
  obtain ⟨t, ht, hregs, hctrl, hmem, hpc, hpce1⟩ := endOfCycle_of_single (side := side) (r := r) (v := v)
    (s := State.putWord { s.advanceEnv with pce1 := fetchPacket s.pc } side r v 0) (by simp [hpw]) hpb hl hst hsat
    (s.pc + 4) i.demand.branch
  refine ⟨t, hstep.trans ht, by simp [State.gpr, hregs], fun side' r' hne => ?_, hctrl, hmem, hpc, hpce1⟩
  have hother : ¬ (side = side' ∧ r = r') := fun ⟨hs, hr⟩ => hne ⟨hs.symm, hr.symm⟩
  simp [State.gpr, hregs, Regs.get_set, hother]

/-! ### The frame of a packet (O10) -/

/-- What E1 of a packet adds: effects of its instructions, no branch and no SAT that is due in the same cycle. -/
structure Effects.OfPacket (ep : List Instr) (e : Effects) : Prop where
  writes : ∀ w ∈ e.writes, ∃ i ∈ ep, isDestination i w.target
  branches : ∀ b ∈ e.branches, b.left ≠ 0
  stores : ∀ t ∈ e.stores, ∃ i ∈ ep, ∃ d, i.demand.data = some d ∧ d.store = true
  sats : ∀ n ∈ e.sats, n ≠ 0

theorem Effects.OfPacket.nil : Effects.empty.OfPacket [] where
  writes := by simp [Effects.empty]
  branches := by simp [Effects.empty]
  stores := by simp [Effects.empty]
  sats := by simp [Effects.empty]

theorem Effects.OfPacket.cons {i : Instr} {is : List Instr} {e f : Effects} (he : e.Of i) (hf : f.OfPacket is) :
    (e.append f).OfPacket (i :: is) where
  writes := List.forall_mem_append.2 ⟨fun w hw => ⟨i, .head is, he.writes w hw⟩, fun w hw =>
    let ⟨j, hj, hjw⟩ := hf.writes w hw; ⟨j, .tail i hj, hjw⟩⟩
  branches := List.forall_mem_append.2 ⟨fun b hb => (he.branches b hb).2, hf.branches⟩
  stores := List.forall_mem_append.2 ⟨fun t ht => ⟨i, .head is, he.stores t ht⟩, fun t ht =>
    let ⟨j, hj, hjt⟩ := hf.stores t ht; ⟨j, .tail i hj, hjt⟩⟩
  sats := List.forall_mem_append.2 ⟨fun n hn => (he.sats n hn).2, hf.sats⟩

theorem execAll_ofPacket {ep : List Instr} {s t : State} (h : execAll ep s = .next t) :
    ∃ e : Effects, e.OfPacket ep ∧ t = s.withEffects e := by
  induction ep generalizing s with
  | nil => cases h; exact ⟨.empty, .nil, by simp⟩
  | cons i is ih =>
    obtain ⟨u, hu, ht⟩ := execAll_cons_eq_next.1 h
    obtain ⟨e, he, -, heq⟩ := exec_effects hu
    obtain rfl := next_eq_next.1 ((heq s.flight).symm.trans hu)
    obtain ⟨f, hf, rfl⟩ := ih ht
    exact ⟨e.append f, .cons he hf, State.withEffects_withEffects s e f⟩

/-- The data of a load is not due in the cycle of the load (R412). -/
theorem loadWrites_left (s : State) (l : Load) : ∀ w ∈ loadWrites s l, w.left ≠ 0 := by
  obtain ⟨a, z, g, side, r, n⟩ := l
  rw [loadWrites_eq]
  cases z <;> simp

theorem memPhase_dueWrites {s t : State} (h : memPhase s = .next t) : t.dueWrites = s.dueWrites := by
  have hnone : (s.dueLoads.flatMap (loadWrites s)).filter (fun w => w.left == 0) = [] := by
    refine List.filter_eq_nil_iff.2 fun w hw => ?_
    obtain ⟨l, -, hl⟩ := List.mem_flatMap.1 hw
    simpa using loadWrites_left s l w hl
  rw [State.dueWrites, memPhase_pw h, List.filter_append, hnone, List.append_nil, State.dueWrites]

/-- The frame of the end of a cycle in which no branch lands and no request arrives. -/
theorem endOfCycle_frame {next : Word} {branched : Bool} {s t : State} (h : endOfCycle 0 next branched s = .next t)
    (hb : ∀ b ∈ s.flight.pb, b.left ≠ 0) :
    t.params = s.params ∧ t.pc = next ∧
    (∀ side r, (∀ w ∈ s.dueWrites, w.target ≠ .gpr side r) → t.gpr side r = s.gpr side r) ∧
    ((∀ w ∈ s.dueWrites, ∀ c, w.target ≠ .ctrl c) → (∀ n ∈ s.flight.psat, n ≠ 0) → t.ctrl = s.ctrl) ∧
    (s.dueStores = [] → t.mem = s.mem) := by
  obtain ⟨u, v, w, hu, hv, hw, rfl⟩ := endOfCycle_eq_next.1 h
  have hdue := memPhase_dueWrites hu
  obtain ⟨-, -, -, rfl⟩ := memPhase_eq_next hu
  obtain ⟨x, hx, rfl⟩ := landPhase_eq_next hv
  rw [landWrites_eq] at hx
  split at hx
  · obtain rfl := next_eq_next.1 hx
    rw [branchPhase_of_none (by simpa using hb)] at hw
    obtain rfl := next_eq_next.1 hw
    refine ⟨by simp, rfl, fun side r hne => ?_, fun hne hsat => ?_, fun hst => ?_⟩
    · exact State.landed_gpr_of_ne (by rwa [hdue])
    · have hctrl := State.landed_ctrl_of_gprs (by rwa [hdue])
      have hnosat : s.flight.psat.any (· == 0) = false := List.any_eq_false.2 (by simpa using hsat)
      simp [hctrl, hnosat]
    · simp [hst]
  · cases hx

/-- Settles O10: from a settled machine only the effects of the packet are in flight at the end of the cycle. -/
theorem packetStepFrame : Obligations.PacketStepFrame := by
  intro s t ep hs hu hreq hf h
  obtain ⟨hpw, hpb, -, hst, hsat, hnop, -, hidle, -⟩ := hs
  rw [step_of_fetch hu hidle hnop hf, hreq, raiseFlags_zero] at h
  obtain ⟨-, u, hexec, hend⟩ := runPacket_eq_next h
  obtain ⟨e, he, rfl⟩ := execAll_ofPacket hexec
  obtain ⟨hparams, hpc, hgpr, hctrl, hmem⟩ := endOfCycle_frame hend (by simpa [hpb] using he.branches)
  have hdest : ∀ w ∈ (State.withEffects { s.advanceEnv with pce1 := fetchPacket s.advanceEnv.pc } e).dueWrites,
      ∃ i ∈ ep, isDestination i w.target := fun w hw => he.writes w (by simpa [hpw] using (mem_dueWrites.1 hw).1)
  refine ⟨fun side r hnot => hgpr side r fun w hw ht => ?_, fun hnot => hctrl (fun w hw c ht => ?_) ?_,
    fun hnot a => congrArg (readByte · a) (hmem (State.dueStores_of_none ?_)), hpc, hparams⟩
  · obtain ⟨i, hi, ⟨q, hq, p, hp, hpt⟩ | ⟨o, c, -, hc⟩⟩ := hdest w hw
    · rw [ht] at hpt
      cases hpt
      exact hnot i hi q hq hp
    · rw [ht] at hc
      cases hc
  · obtain ⟨i, hi, ⟨_, _, _, _, hpt⟩ | ⟨o, c, hio, -⟩⟩ := hdest w hw
    · rw [ht] at hpt
      cases hpt
    · exact hnot i hi o hio
  · simpa [hsat] using he.sats
  · simp only [State.withEffects_flight_pmStores, State.advanceEnv_flight, hst, List.nil_append]
    refine List.eq_nil_iff_forall_not_mem.2 fun q hq => ?_
    obtain ⟨i, hi, d, hd, hstore⟩ := he.stores q hq
    rw [hnot i hi d hd] at hstore
    cases hstore

end Sys2Proof.Machine

/-! PROOFS. What lands in a waiting machine, cycle by cycle: a result and its SAT (O33), the return from an interrupt (O41;
R157, R216, R217, R409). -/
namespace Sys2Proof.Machine

/-! ### Steps of a waiting machine -/

theorem run_succ_of_step {s t : State} (h : step s = .next t) (k : Nat) :
    Host.Core.run Sys2Proof.core (k + 1) s = Host.Core.run Sys2Proof.core k t := by
  simp only [Host.Core.run, core, h]

/-- No interrupt is taken while NMIE is clear (R350). -/
theorem readyInterrupt_of_not_nmie {s : State} (h : s.ctrl.nmie = false) : readyInterrupt s = none := by
  simp [readyInterrupt, h]

/-- A step of a waiting machine is the end of a cycle. -/
theorem State.waiting.step_eq {s : State} (h : s.waiting) : step s = endOfCycle 0 s.pc false s := by
  obtain ⟨henv, hnmie, hidle⟩ := h
  have hinput : s.input = EnvInput.quiet := by simp [State.input, henv]
  have htail : s.env.tail = s.env := by rw [henv]; rfl
  have hsame : s.advanceEnv = s := by rw [State.advanceEnv, htail]
  have hu : s.undisturbed := by
    refine ⟨by rw [hinput]; rfl, .inl (readyInterrupt_of_not_nmie ?_)⟩
    simpa [Ctrl.nmie] using hnmie
  have hquiet : EnvInput.quiet.requests = 0 := rfl
  rw [step_of_idle hu hidle, hsame, hinput, hquiet, raiseFlags_zero]

/-- A machine goes on waiting as long as its environment input and NMIE stay. -/
theorem State.waiting.congr {s t : State} (h : s.waiting) (henv : t.env = s.env) (hier : t.ctrl.ier = s.ctrl.ier)
    (hidle : t.flight.idle = (s.flight.idle || s.flight.idlereq)) : t.waiting := by
  obtain ⟨h1, h2, h3⟩ := h
  exact ⟨henv.trans h1, by simpa [Ctrl.nmie, hier] using h2, by simp [hidle, h3]⟩

/-! ### A result and its SAT (O33) -/

/-- A cycle of a waiting machine without accesses and branches. -/
def State.tick (s : State) : State := closeCycle false { landSat s.landed with pc := s.pc }

/-- A waiting machine in which no access and no branch is in flight. -/
structure ResultsOnly (s : State) : Prop where
  waiting : s.waiting
  loads : s.flight.pmLoads = []
  stores : s.flight.pmStores = []
  branches : s.flight.pb = []

theorem ResultsOnly.step_eq {s : State} (h : ResultsOnly s) (hd : (s.dueWrites.map fun w => w.target.named).Nodup) :
    step s = .next s.tick := by
  rw [h.waiting.step_eq, endOfCycle_of_writes h.loads h.stores h.branches hd, raiseFlags_zero, State.tick]

theorem ResultsOnly.tick {s : State} (h : ResultsOnly s) (hctrl : s.landed.ctrl = s.ctrl) : ResultsOnly s.tick where
  waiting := h.waiting.congr (State.landed_env s) (by simp [State.tick, hctrl]) rfl
  loads := h.loads
  stores := h.stores
  branches := h.branches

/-- A cycle in which no write is due leaves the registers. -/
theorem State.landed_of_none {s : State} (h : s.dueWrites = []) : s.landed.regs = s.regs ∧ s.landed.ctrl = s.ctrl := by
  simp [State.landed, h]

/-- With no write and no SAT in flight registers and control registers stay. -/
theorem run_of_nothing {k : Nat} : ∀ {s : State}, ResultsOnly s → s.flight.pw = [] → s.flight.psat = [] →
    ∃ t : State, Host.Core.run Sys2Proof.core k s = .next t ∧ t.regs = s.regs ∧ t.ctrl = s.ctrl := by
  induction k with
  | zero => exact fun _ _ _ => ⟨_, rfl, rfl, rfl⟩
  | succ k ih =>
    intro s h hpw hsat
    have hdue : s.dueWrites = [] := by simp [State.dueWrites, hpw]
    obtain ⟨hregs, hctrl⟩ := State.landed_of_none hdue
    obtain ⟨t, ht, htr, htc⟩ := ih (h.tick hctrl) (by simp [State.tick, hpw]) (by simp [State.tick, hsat])
    refine ⟨t, (run_succ_of_step (h.step_eq (by simp [hdue])) k).trans ht, htr.trans hregs, htc.trans ?_⟩
    simp [State.tick, hctrl, hsat]

/-- SAT that is due is set at the end of the cycle and stays. -/
theorem run_of_sat {k : Nat} {s : State} (h : ResultsOnly s) (hpw : s.flight.pw = []) (hsat : s.flight.psat = [0]) :
    ∃ t : State, Host.Core.run Sys2Proof.core k s = .next t ∧ t.regs = s.regs ∧
      t.ctrl.csr.getLsbD 9 = (if k = 0 then s.ctrl.csr.getLsbD 9 else true) := by
  cases k with
  | zero => exact ⟨s, rfl, rfl, rfl⟩
  | succ k =>
    have hdue : s.dueWrites = [] := by simp [State.dueWrites, hpw]
    obtain ⟨hregs, hctrl⟩ := State.landed_of_none hdue
    obtain ⟨t, ht, htr, htc⟩ :=
      run_of_nothing (k := k) (h.tick hctrl) (by simp [State.tick, hpw]) (by simp [State.tick, hsat])
    refine ⟨t, (run_succ_of_step (h.step_eq (by simp [hdue])) k).trans ht, htr.trans hregs, ?_⟩
    simp [htc, State.tick, hsat, setSat]

/-- A result with `d` delay slots, and SAT one cycle later. -/
theorem run_of_result {side : Side} {r : RegNum} {v : Word} {d : Nat} : ∀ {k : Nat} {s : State}, ResultsOnly s →
    s.flight.pw = [⟨.gpr side r, v, d⟩] → s.flight.psat = [d + 1] →
    ∃ t : State, Host.Core.run Sys2Proof.core k s = .next t ∧
      t.regs = (if k ≤ d then s.regs else s.regs.set side r v) ∧
      t.ctrl.csr.getLsbD 9 = (if k ≤ d + 1 then s.ctrl.csr.getLsbD 9 else true) := by
  induction d with
  | zero =>
    intro k s h hpw hsat
    cases k with
    | zero => exact ⟨s, rfl, rfl, rfl⟩
    | succ k =>
      obtain ⟨hnodup, hnone, hregs, hctrl⟩ := State.landed_of_single hpw
      obtain ⟨t, ht, htr, htc⟩ := run_of_sat (k := k) (h.tick hctrl) hnone (by simp [State.tick, hsat])
      refine ⟨t, (run_succ_of_step (h.step_eq hnodup) k).trans ht, ?_, ?_⟩
      · simpa using htr.trans hregs
      · have hcsr : s.tick.ctrl.csr = s.ctrl.csr := by simp [State.tick, hctrl, hsat]
        simpa [hcsr] using htc
  | succ d ih =>
    intro k s h hpw hsat
    cases k with
    | zero => exact ⟨s, rfl, by simp, by simp⟩
    | succ k =>
      have hdue : s.dueWrites = [] := by simp [State.dueWrites, hpw]
      obtain ⟨hlanded, hctrl⟩ := State.landed_of_none hdue
      have hregs : s.tick.regs = s.regs := by simp [State.tick, hlanded]
      have hcsr : s.tick.ctrl.csr = s.ctrl.csr := by simp [State.tick, hctrl, hsat]
      obtain ⟨t, ht, htr, htc⟩ := ih (k := k) (h.tick hctrl) (by simp [State.tick, hpw]) (by simp [State.tick, hsat])
      refine ⟨t, (run_succ_of_step (h.step_eq (by simp [hdue])) k).trans ht, ?_, ?_⟩
      · simpa [hregs] using htr
      · simpa [hcsr] using htc

/-- Settles O33. -/
theorem resultAndSatTiming : Obligations.ResultAndSatTiming := by
  intro s side r v d k hwait hpw hsat hpb hl hs
  obtain ⟨t, ht, hregs, hcsr⟩ := run_of_result (k := k) ⟨hwait, hl, hs, hpb⟩ hpw hsat
  refine ⟨t, ht, ?_, hcsr, fun side' r' hne => ?_⟩
  · simp only [State.gpr, hregs]
    split <;> simp
  · have hother : ¬ (side = side' ∧ r = r') := fun ⟨hs, hr⟩ => hne ⟨hs.symm, hr.symm⟩
    simp only [State.gpr, hregs]
    split <;> simp [Regs.get_set, hother]

/-! ### Return from an interrupt (O41) -/

/-- A step of a waiting machine in which only branches are in flight, none of them due. -/
theorem State.waiting.step_of_pending {s : State} (h : s.waiting) (hdrained : s.flight.drained = true)
    (hb : ∀ b ∈ s.flight.pb, b.left ≠ 0) : ∃ t, step s = .next t ∧ t.waiting ∧ t.flight.drained = true ∧
      t.flight.pb = s.flight.pb.map (fun b => { b with left := b.left - 1 }) ∧ t.regs = s.regs ∧ t.mem = s.mem ∧
      t.pc = s.pc ∧ t.ctrl = s.ctrl := by
  rw [h.step_eq, endOfCycle_of_drained hdrained, raiseFlags_zero, branchPhase_of_none hb, andThen_next]
  exact ⟨_, rfl, h.congr rfl rfl rfl, hdrained, rfl, rfl, rfl, rfl, rfl⟩

/-- A waiting machine in which only a branch is in flight: it lands when its cycles are over, and not sooner. -/
theorem run_of_branch {a : Word} {n : Nat} {kind : BranchKind} : ∀ {k : Nat} {s : State}, s.waiting →
    s.flight.drained = true → s.flight.pb = [⟨a, n, kind⟩] → k ≤ n + 1 →
    ∃ t : State, Host.Core.run Sys2Proof.core k s = .next t ∧ t.regs = s.regs ∧ t.mem = s.mem ∧
      (k < n + 1 → t.pc = s.pc ∧ t.ctrl = s.ctrl) ∧
      (k = n + 1 → t.pc = a ∧ t.ctrl = s.ctrl.afterBranch kind) := by
  induction n with
  | zero =>
    intro k s hwait hdrained hpb hk
    cases k with
    | zero => exact ⟨s, rfl, rfl, rfl, fun _ => ⟨rfl, rfl⟩, by simp⟩
    | succ k =>
      obtain rfl : k = 0 := by omega
      have hstep := hwait.step_eq
      rw [endOfCycle_of_drained hdrained, raiseFlags_zero,
        branchPhase_of_single (xs := []) (ys := []) hpb rfl (by simp)] at hstep
      exact ⟨_, run_succ_of_step hstep 0, rfl, rfl, by simp, fun _ => ⟨rfl, rfl⟩⟩
  | succ n ih =>
    intro k s hwait hdrained hpb hk
    cases k with
    | zero => exact ⟨s, rfl, rfl, rfl, fun _ => ⟨rfl, rfl⟩, by simp⟩
    | succ k =>
      obtain ⟨u, hstep, huwait, hudrained, hupb, huregs, humem, hupc, huctrl⟩ :=
        hwait.step_of_pending hdrained (by simp [hpb])
      obtain ⟨t, ht, hregs, hmem, hbefore, hafter⟩ := ih (k := k) huwait hudrained (by simp [hupb, hpb]) (by omega)
      rw [huregs] at hregs
      rw [humem] at hmem
      rw [hupc, huctrl] at hbefore
      rw [huctrl] at hafter
      exact ⟨t, (run_succ_of_step hstep k).trans ht, hregs, hmem, fun hlt => hbefore (by omega), fun heq => hafter (by omega)⟩

/-- A branch to an aligned address in a waiting machine with nothing in flight. -/
theorem run_of_pendBranch {s : State} (hwait : s.waiting) (hdrained : s.flight.drained = true) (hpb : s.flight.pb = [])
    (a : Word) (kind : BranchKind) {k : Nat} (hk : k ≤ 6) :
    ∃ t : State, Host.Core.run Sys2Proof.core k (s.pendBranch a kind) = .next t ∧ t.regs = s.regs ∧ t.mem = s.mem ∧
      (k < 6 → t.pc = s.pc ∧ t.ctrl = s.ctrl) ∧ (k = 6 → t.pc = a ∧ t.ctrl = s.ctrl.afterBranch kind) :=
  run_of_branch (s := s.pendBranch a kind) (n := 5) hwait hdrained (by simp [hpb, branchDelay]) hk

/-- Settles O41: E1 of the return puts its branch in flight, which lands in the sixth cycle. -/
theorem returnsLandAfterFiveSlots : Obligations.ReturnsLandAfterFiveSlots := by
  intro s o k hwait hdrained hpb hk
  refine ⟨fun ⟨hwf, hcond⟩ haligned => ?_, fun ⟨hwf, hcond⟩ haligned => ?_⟩
  · have hexec : exec (.bIrp o) s = .next (s.pendBranch s.ctrl.irp .irp) :=
      (issue_of_ready hwf hcond).trans (branchTo_eq_next.2 ⟨haligned, rfl⟩)
    obtain ⟨t, ht, hregs, hmem, hbefore, hafter⟩ := run_of_pendBranch hwait hdrained hpb s.ctrl.irp .irp hk
    refine ⟨_, t, hexec, ht, hregs, hmem, hbefore, fun h6 => ?_⟩
    obtain ⟨hpc, hctrl⟩ := hafter h6
    rw [hctrl]
    exact ⟨hpc, rfl, fun j hj => returnIrp_bit s.ctrl hj⟩
  · have hexec : exec (.bNrp o) s = .next (s.pendBranch s.ctrl.nrp .nrp) :=
      (issue_of_ready hwf hcond).trans (branchTo_eq_next.2 ⟨haligned, rfl⟩)
    obtain ⟨t, ht, hregs, hmem, hbefore, hafter⟩ := run_of_pendBranch hwait hdrained hpb s.ctrl.nrp .nrp hk
    refine ⟨_, t, hexec, ht, hregs, hmem, hbefore, fun h6 => ?_⟩
    obtain ⟨hpc, hctrl⟩ := hafter h6
    rw [hctrl]
    exact ⟨hpc, rfl, fun j hj => returnNrp_bit s.ctrl hj⟩

end Sys2Proof.Machine

/-! SUPPORT. From the meaning of an instruction to what it writes, and the exact integers of spec/00_scope.md R9 as operations on
words: sums, comparisons, saturation. -/
namespace Sys2Proof.Machine

/-! ### What an instruction writes (R155 step 4, R161) -/

section
variable {s : State} {i : Instr} {side : Side} {dst : RegNum} {d : Nat}

/-- An instruction that executes does what stands behind its guard. -/
theorem exec_of_ready {body : Result} (hi : exec i s = issue i s body) (h : ready s i) : exec i s = body :=
  hi.trans (issue_of_ready h.1 h.2)

theorem writesWord_of_issue {v w : Word} (hi : exec i s = issue i s (.next (s.putWord side dst v d))) (hv : v = w) :
    writesWord s i side dst w d :=
  hv ▸ exec_of_ready hi

theorem writesLong_of_issue {v w : Long} (hi : exec i s = issue i s (.next (s.putLong side dst v))) (hv : v = w) :
    writesLong s i side dst w :=
  hv ▸ exec_of_ready hi

end

/-! ### Exact integers truncated (R9) -/

section
variable {m n w : Nat}

theorem trunc_add {a b : Int} {x y : BitVec w} (ha : trunc w a = x) (hb : trunc w b = y) : trunc w (a + b) = x + y :=
  (BitVec.ofInt_add a b).trans (congrArg₂ _ ha hb)

theorem trunc_sub {a b : Int} {x y : BitVec w} (ha : trunc w a = x) (hb : trunc w b = y) : trunc w (a - b) = x - y := by
  rw [Int.sub_eq_add_neg, BitVec.sub_eq_add_neg]
  exact trunc_add ha (BitVec.ofInt_neg.trans (congrArg _ hb))

theorem trunc_sext (x : BitVec w) : trunc w (sext x) = x := BitVec.ofInt_toInt

theorem trunc_sext_signExtend (x : BitVec m) : trunc w (sext x) = x.signExtend w := rfl

theorem trunc_zext_setWidth (x : BitVec m) : trunc w (zext x) = x.setWidth w := by
  rw [trunc, BitVec.ofInt_natCast, BitVec.ofNat_toNat]

theorem trunc_zext (x : BitVec w) : trunc w (zext x) = x := (trunc_zext_setWidth x).trans (BitVec.setWidth_eq x)

/-- The step of SUBC on words: the comparison is unsigned (R197). -/
theorem trunc_subcStep (a b : Word) : trunc 32 (subcStep a b) = if b.ule a then 2 * (a - b) + 1 else 2 * a := by
  have hdouble : ∀ {x : Int} {y : Word}, trunc 32 x = y → trunc 32 (x * 2) = 2 * y := fun h => by
    subst h
    exact (BitVec.ofInt_mul _ _).trans (BitVec.mul_comm _ _)
  have hle : zext b ≤ zext a ↔ b.ule a = true := by rw [BitVec.ule_iff_toNat_le, zext, zext, Int.ofNat_le]
  simp only [subcStep, hle]
  split
  · exact trunc_add (hdouble (trunc_sub (trunc_zext a) (trunc_zext b))) rfl
  · exact hdouble (trunc_zext a)

/-! ### Comparisons of exact integers (R184-R188) -/

theorem truth_lt_sext {a b : Int} {x y : BitVec w} (ha : sext x = a) (hb : sext y = b) :
    truth (decide (a < b)) = bitWord (x.slt y) := by
  subst ha hb
  rw [BitVec.slt_eq_decide]
  rfl

theorem truth_eq_sext {a b : Int} {x y : BitVec w} (ha : sext x = a) (hb : sext y = b) :
    truth (decide (a = b)) = bitWord (x == y) := by
  have heq : a = b ↔ x = y := by rw [← ha, ← hb, BitVec.toInt_inj]
  rw [decide_eq_decide.2 heq]
  rfl

theorem truth_lt_zext {a b : Int} {x y : BitVec w} (ha : zext x = a) (hb : zext y = b) :
    truth (decide (a < b)) = bitWord (x.ult y) := by
  have hlt : a < b ↔ x.toNat < y.toNat := by rw [← ha, ← hb, zext, zext, Int.ofNat_lt]
  rw [BitVec.ult_eq_decide, decide_eq_decide.2 hlt]
  rfl

theorem sext_signExtend {x : BitVec m} (h : m ≤ n) : sext (x.signExtend n) = sext x := BitVec.toInt_signExtend_of_le h

theorem zext_setWidth {x : BitVec m} (h : m ≤ n) : zext (x.setWidth n) = zext x :=
  congrArg Int.ofNat (BitVec.toNat_setWidth_of_le h)

/-! ### Saturation (R37, R180, R192) -/

theorem clamp_of_gt {x : Int} (h : 2 ^ (w - 1) - 1 < x) : clamp w x = 2 ^ (w - 1) - 1 := by
  have hpos : (0 : Int) < 2 ^ (w - 1) := by positivity
  rw [clamp, min_eq_right h.le, max_eq_right (by omega)]

theorem clamp_of_lt {x : Int} (h : x < -2 ^ (w - 1)) : clamp w x = -2 ^ (w - 1) := by
  have hpos : (0 : Int) < 2 ^ (w - 1) := by positivity
  rw [clamp, min_eq_left (by omega), max_eq_left h.le]

theorem clamp_of_fits {x : Int} (hhigh : ¬ 2 ^ (w - 1) - 1 < x) (hlow : ¬ x < -2 ^ (w - 1)) : clamp w x = x := by
  rw [clamp, min_eq_left (not_lt.1 hhigh), max_eq_right (not_lt.1 hlow)]

/-- SAT is set when clamping changes the result. -/
theorem saturates_of_clamp {x y : Int} (hc : clamp w x = y) (hne : x ≠ y) : saturates w x = true :=
  decide_eq_true (hc ▸ hne)

theorem saturates_of_fits {x : Int} (hc : clamp w x = x) : saturates w x = false := decide_eq_false (not_not_intro hc.symm)

theorem trunc_intMax : trunc w (2 ^ (w - 1) - 1) = BitVec.intMax w := by
  rw [← BitVec.toInt_intMax, trunc, BitVec.ofInt_toInt]

theorem trunc_intMin (hw : 0 < w) : trunc w (-2 ^ (w - 1)) = BitVec.intMin w := by
  rw [← BitVec.toInt_intMin_of_pos hw, trunc, BitVec.ofInt_toInt]

/-- ABS on words: the most negative value has no opposite (R180). -/
theorem trunc_absSat (hw : 0 < w) (b : BitVec w) : trunc w (absSat w (sext b)) =
    if b = BitVec.intMin w then BitVec.intMax w else if b.slt 0 then -b else b := by
  have hmin : b = BitVec.intMin w ↔ sext b = -2 ^ (w - 1) := by
    rw [← BitVec.toInt_intMin_of_pos hw, sext, BitVec.toInt_inj]
  have hneg : b.slt 0 = true ↔ ¬ 0 ≤ sext b := by
    rw [BitVec.slt_iff_toInt_lt, not_le]
    exact iff_of_eq (congrArg _ BitVec.toInt_zero)
  have hpos : (0 : Int) < 2 ^ (w - 1) := by positivity
  simp only [hmin, hneg, absSat]
  by_cases h0 : 0 ≤ sext b
  · have hne : sext b ≠ -2 ^ (w - 1) := by omega
    rw [if_pos h0, if_neg hne, if_neg (not_not_intro h0), trunc_sext]
  · rw [if_neg h0]
    by_cases hm : sext b = -2 ^ (w - 1)
    · rw [if_pos hm, if_pos hm, trunc_intMax]
    · rw [if_neg hm, if_neg hm, if_pos h0]
      exact BitVec.ofInt_neg.trans (congrArg _ (trunc_sext b))

/-- A saturating operation `f` of the word and the SAT condition: the result that fits, or the nearest limit and SAT. -/
theorem saturated_eq {α : Type} (hw : 0 < w) (f : BitVec w → Bool → α) (x : Int) : f (trunc w (clamp w x)) (saturates w x) =
    if 2 ^ (w - 1) - 1 < x then f (BitVec.intMax w) true
    else if x < -2 ^ (w - 1) then f (BitVec.intMin w) true
    else f (BitVec.ofInt w x) false := by
  split
  · next h => rw [saturates_of_clamp (clamp_of_gt h) h.ne', clamp_of_gt h, trunc_intMax]
  split
  · next h => rw [saturates_of_clamp (clamp_of_lt h) h.ne, clamp_of_lt h, trunc_intMin hw]
  · next hhigh hlow => rw [saturates_of_fits (clamp_of_fits hhigh hlow), clamp_of_fits hhigh hlow]

end

theorem putSat_eq_satState (s : State) (side : Side) (dst : RegNum) (x : Int) (d : Nat) :
    s.putSat side dst x d = satState s side dst x d :=
  saturated_eq (by decide) (fun v b => (s.putWord side dst v d).pendSatIf b d) x

theorem putSatLong_eq_satStateLong (s : State) (side : Side) (dst : RegNum) (x : Int) :
    s.putSatLong side dst x = satStateLong s side dst x :=
  saturated_eq (by decide) (fun v b => (s.putLong side dst v).pendSatIf b 0) x

section
variable {s : State} {i : Instr} {side : Side} {dst : RegNum} {x : Int} {d : Nat}

theorem writesSat_of_issue (hi : exec i s = issue i s (.next (s.putSat side dst x d))) : writesSat s i side dst x d :=
  fun h => putSat_eq_satState s side dst x d ▸ exec_of_ready hi h

theorem writesSatLong_of_issue (hi : exec i s = issue i s (.next (s.putSatLong side dst x))) :
    writesSatLong s i side dst x :=
  fun h => putSatLong_eq_satStateLong s side dst x ▸ exec_of_ready hi h

end

end Sys2Proof.Machine

/-! PROOFS. The results of the .L units and of the arithmetic and logic of .S and .D (O11-O16; R178-R198, R210-R234, R284,
R285). -/
namespace Sys2Proof.Machine

/-! ### Saturation (O13) -/

/-- SSHL by a register checks its amount (R231). -/
theorem exec_sshlReg_of_ready {s : State} {o : XForm} (h : ready s (.sshlReg o)) : exec (.sshlReg o) s =
    if 31 < (own1 s o).toNat then .fault .sshlAmount
    else .next (s.putSat o.side o.dst ((cross2 s o).toInt * 2 ^ (own1 s o).toNat) 0) :=
  exec_of_ready rfl h

/-- Settles O13: every result but that of ABS is `putSat` or `putSatLong` of an exact integer. -/
theorem saturatingResults : Obligations.SaturatingResults := by
  intro s
  refine ⟨fun _ => writesSat_of_issue rfl, fun _ => writesSat_of_issue rfl, fun _ => writesSatLong_of_issue rfl,
    fun _ => writesSatLong_of_issue rfl, fun _ => writesSat_of_issue rfl, fun _ => writesSat_of_issue rfl,
    fun _ => writesSat_of_issue rfl, fun _ => writesSatLong_of_issue rfl, fun _ => writesSat_of_issue rfl,
    fun _ => writesSat_of_issue rfl, fun o hle h => ?_, fun o hgt h => ?_, fun o b hb => ?_, fun o b hb => ?_⟩
  · rw [exec_sshlReg_of_ready h, if_neg (not_lt.2 hle), putSat_eq_satState]
  · rw [exec_sshlReg_of_ready h, if_pos hgt]
  · subst hb
    exact writesWord_of_issue rfl (trunc_absSat (by decide) _)
  · subst hb
    exact writesLong_of_issue rfl (trunc_absSat (by decide) _)

/-! ### Bit counts (O15) -/

/-- What `countUntil` counts: the bits from `n - 1` down that differ from `k`. -/
theorem countUntil_spec {w : Nat} (b : BitVec w) (k : Bool) (n : Nat) :
    countUntil b k n ≤ n ∧ (∀ j < countUntil b k n, b.getLsbD (n - 1 - j) ≠ k) ∧
      (countUntil b k n < n → b.getLsbD (n - 1 - countUntil b k n) = k) := by
  induction n with
  | zero => simp [countUntil]
  | succ n ih =>
    obtain ⟨hle, hbefore, hat⟩ := ih
    by_cases hk : b.getLsbD n = k
    · simp [countUntil, hk]
    · simp only [countUntil, if_neg hk, Nat.add_sub_cancel]
      refine ⟨by omega, fun j hj => ?_, fun hlt => ?_⟩
      · cases j with
        | zero => exact hk
        | succ j =>
          rw [Nat.sub_add_eq, Nat.sub_right_comm]
          exact hbefore j (by omega)
      · rw [Nat.sub_add_eq, Nat.sub_right_comm]
        exact hat (by omega)

/-- NORM counts the bits below the sign bit that equal it (R190). -/
theorem redundantSign_spec {w : Nat} (b : BitVec w) :
    redundantSign b ≤ w - 1 ∧ (∀ j < redundantSign b, b.getLsbD (w - 1 - 1 - j) = b.getLsbD (w - 1)) ∧
      (redundantSign b < w - 1 → b.getLsbD (w - 1 - 1 - redundantSign b) ≠ b.getLsbD (w - 1)) := by
  obtain ⟨hle, hbefore, hat⟩ := countUntil_spec b (!b.getLsbD (w - 1)) (w - 1)
  exact ⟨hle, fun j hj => Bool.ne_not.1 (hbefore j hj), fun hlt => Bool.eq_not.1 (hat hlt)⟩

/-- Settles O15: the count that each instruction writes is the place. -/
theorem bitCountResults : Obligations.BitCountResults := fun _ =>
  ⟨fun _ h => ⟨_, exec_of_ready rfl h, countUntil_spec _ _ 32⟩,
    fun _ h => ⟨_, exec_of_ready rfl h, countUntil_spec _ _ 32⟩,
    fun _ h => ⟨_, exec_of_ready rfl h, redundantSign_spec (w := 32) _⟩,
    fun _ h => ⟨_, exec_of_ready rfl h, redundantSign_spec (w := 40) _⟩⟩

/-! ### Sums and differences (O11, O12) -/

/-- Settles O11: each sum is `trunc_add` of its operands, extended or of the full width. -/
theorem additionResults : Obligations.AdditionResults := fun _ =>
  ⟨fun _ => writesWord_of_issue rfl (trunc_add (trunc_sext_signExtend _) (trunc_sext _)),
    fun _ => writesWord_of_issue rfl (trunc_add (trunc_sext _) (trunc_sext _)),
    fun _ => writesLong_of_issue rfl (trunc_add (trunc_sext_signExtend _) (trunc_sext _)),
    fun _ => writesLong_of_issue rfl (trunc_add (trunc_sext_signExtend _) (trunc_sext _)),
    fun _ => writesLong_of_issue rfl (trunc_add (trunc_sext_signExtend _) (trunc_sext_signExtend _)),
    fun _ => writesWord_of_issue rfl (trunc_add (trunc_sext_signExtend _) (trunc_sext _)),
    fun _ => writesWord_of_issue rfl (trunc_add (trunc_sext _) (trunc_sext _)),
    fun _ => writesLong_of_issue rfl (trunc_add (trunc_zext_setWidth _) (trunc_zext _)),
    fun _ => writesLong_of_issue rfl (trunc_add (trunc_zext_setWidth _) (trunc_zext_setWidth _)),
    fun _ => writesWord_of_issue rfl (trunc_add (trunc_sext _) (trunc_sext_signExtend _)),
    fun _ => writesWord_of_issue rfl (trunc_add (trunc_sext _) (trunc_sext _)),
    fun _ => writesWord_of_issue rfl (trunc_add (trunc_sext _) (trunc_zext_setWidth _)),
    fun _ => writesWord_of_issue rfl rfl⟩

/-- Settles O12: each difference is `trunc_sub` of its operands, extended or of the full width. -/
theorem subtractionResults : Obligations.SubtractionResults := fun _ =>
  ⟨fun _ => writesWord_of_issue rfl (trunc_sub (trunc_sext_signExtend _) (trunc_sext _)),
    fun _ => writesWord_of_issue rfl (trunc_sub (trunc_sext _) (trunc_sext _)),
    fun _ => writesWord_of_issue rfl (trunc_sub (trunc_sext _) (trunc_sext _)),
    fun _ => writesLong_of_issue rfl (trunc_sub (trunc_sext_signExtend _) (trunc_sext _)),
    fun _ => writesLong_of_issue rfl (trunc_sub (trunc_sext_signExtend _) (trunc_sext_signExtend _)),
    fun _ => writesLong_of_issue rfl (trunc_sub (trunc_sext_signExtend _) (trunc_sext_signExtend _)),
    fun _ => writesWord_of_issue rfl (trunc_sub (trunc_sext_signExtend _) (trunc_sext _)),
    fun _ => writesWord_of_issue rfl (trunc_sub (trunc_sext _) (trunc_sext _)),
    fun _ => writesLong_of_issue rfl (trunc_sub (trunc_zext_setWidth _) (trunc_zext_setWidth _)),
    fun _ => writesLong_of_issue rfl (trunc_sub (trunc_zext_setWidth _) (trunc_zext_setWidth _)),
    fun _ => writesWord_of_issue rfl (trunc_sub (trunc_sext _) (trunc_sext _)),
    fun _ => writesWord_of_issue rfl (trunc_sub (trunc_sext _) (trunc_zext_setWidth _)),
    fun _ => writesWord_of_issue rfl rfl,
    fun _ => writesWord_of_issue rfl (trunc_subcStep _ _)⟩

/-! ### Comparisons (O14) -/

/-- Settles O14: extension to the width of src2 keeps the number that is compared. -/
theorem compareResults : Obligations.CompareResults := by
  intro s
  have h5 : 5 ≤ 32 := by decide
  have h5Long : 5 ≤ 40 := by decide
  have h32 : 32 ≤ 40 := by decide
  refine ⟨fun _ => ?_, fun _ => ?_, fun _ => ?_, fun _ => ?_, fun _ => ?_, fun _ => ?_, fun _ => ?_, fun _ => ?_,
    fun _ => ?_, fun _ => ?_, fun _ => ?_, fun _ => ?_, fun _ => ?_, fun _ => ?_, fun _ => ?_, fun _ => ?_,
    fun _ => ?_, fun _ => ?_, fun _ => ?_, fun _ => ?_⟩ <;> refine writesWord_of_issue rfl ?_
  · exact truth_lt_sext rfl (sext_signExtend h5)
  · exact truth_lt_sext rfl rfl
  · exact truth_lt_sext rfl (sext_signExtend h5Long)
  · exact truth_lt_sext rfl (sext_signExtend h32)
  · exact truth_lt_sext (sext_signExtend h5) rfl
  · exact truth_lt_sext rfl rfl
  · exact truth_lt_sext (sext_signExtend h5Long) rfl
  · exact truth_lt_sext (sext_signExtend h32) rfl
  · exact truth_eq_sext (sext_signExtend h5) rfl
  · exact truth_eq_sext rfl rfl
  · exact truth_eq_sext (sext_signExtend h5Long) rfl
  · exact truth_eq_sext (sext_signExtend h32) rfl
  · exact truth_lt_zext rfl (zext_setWidth h5)
  · exact truth_lt_zext rfl rfl
  · exact truth_lt_zext rfl (zext_setWidth h5Long)
  · exact truth_lt_zext rfl (zext_setWidth h32)
  · exact truth_lt_zext (zext_setWidth h5) rfl
  · exact truth_lt_zext rfl rfl
  · exact truth_lt_zext (zext_setWidth h5Long) rfl
  · exact truth_lt_zext (zext_setWidth h32) rfl

/-! ### Logic and moves (O16) -/

/-- Settles O16: these words are what the meanings compute, by definition (`trunc` of a `sext` is the sign extension). -/
theorem logicAndMoveResults : Obligations.LogicAndMoveResults := by
  intro s
  refine ⟨?_, ?_, ?_, ?_, ?_, ?_, ?_, ?_, ?_, ?_, ?_, ?_, ?_, ?_⟩ <;> exact fun _ => writesWord_of_issue rfl rfl

end Sys2Proof.Machine

/-! PROOFS. The shifts, the bit fields and the branches of the .S units (O17, O18, O25; R214-R222, R228-R230). -/
namespace Sys2Proof.Machine

/-! ### Shifts (O17) -/

/-- The six low bits of src1 and the amount of the model agree up to every width that is shifted: amounts above 39 leave no bit
(R222). -/
theorem min_shiftAmount {w : Nat} (hw : w ≤ 40) (a : Word) : min (shiftAmount a) w = min (amount a) w := by
  have hlow : (a.extractLsb' 0 6).toNat = amount a := by simp [BitVec.extractLsb'_toNat]
  rw [shiftAmount, hlow]
  split <;> omega

section
variable {w n k : Nat}

/-! A shift by `k` is a shift by every `n` that agrees with `k` up to the width. -/

theorem isShl_shiftLeft (h : min k w = min n w) (b : BitVec w) : isShl b n (b <<< k) := by
  intro j hj
  rw [BitVec.getLsbD_shiftLeft, decide_eq_true hj, Bool.true_and]
  by_cases hkj : k ≤ j
  · have hkn : k = n := by omega
    simp [← hkn, hkj]
  · have hnj : ¬ n ≤ j := by omega
    simp [hnj, show j < k by omega]

theorem isShru_ushiftRight (h : min k w = min n w) (b : BitVec w) : isShru b n (b >>> k) := by
  intro j hj
  rw [BitVec.getLsbD_ushiftRight, Nat.add_comm]
  by_cases hjk : j + k < w
  · have hkn : k = n := by omega
    simp [← hkn, hjk]
  · have hjn : ¬ j + n < w := by omega
    simp [hjn, BitVec.getLsbD_of_ge b (j + k) (by omega)]

theorem isShr_sshiftRight (h : min k w = min n w) (b : BitVec w) : isShr b n (b.sshiftRight k) := by
  intro j hj
  rw [BitVec.getLsbD_sshiftRight, Nat.add_comm]
  by_cases hjk : j + k < w
  · have hmin : min (j + n) (w - 1) = j + k := by omega
    simp [hmin, hj, hjk]
  · have hmin : min (j + n) (w - 1) = w - 1 := by omega
    simp [hmin, hj, hjk, BitVec.msb_eq_getLsbD_last]

end

/-- Settles O17: each result is a shift by the constant, or by an amount that agrees with the six low bits of src1. -/
theorem shiftResults : Obligations.ShiftResults := by
  intro s
  have hword : ∀ a, min (shiftAmount a) 32 = min (amount a) 32 := min_shiftAmount (by decide)
  have hlong : ∀ a, min (shiftAmount a) 40 = min (amount a) 40 := min_shiftAmount (by decide)
  exact ⟨fun _ h => ⟨_, isShl_shiftLeft rfl _, exec_of_ready rfl h⟩,
    fun _ h => ⟨_, isShl_shiftLeft (hword _) _, exec_of_ready rfl h⟩,
    fun _ h => ⟨_, isShl_shiftLeft rfl _, exec_of_ready rfl h⟩,
    fun _ h => ⟨_, isShl_shiftLeft (hlong _) _, exec_of_ready rfl h⟩,
    fun _ h => ⟨_, isShr_sshiftRight rfl _, exec_of_ready rfl h⟩,
    fun _ h => ⟨_, isShr_sshiftRight (hword _) _, exec_of_ready rfl h⟩,
    fun _ h => ⟨_, isShr_sshiftRight rfl _, exec_of_ready rfl h⟩,
    fun _ h => ⟨_, isShr_sshiftRight (hlong _) _, exec_of_ready rfl h⟩,
    fun _ h => ⟨_, isShru_ushiftRight rfl _, exec_of_ready rfl h⟩,
    fun _ h => ⟨_, isShru_ushiftRight (hword _) _, exec_of_ready rfl h⟩,
    fun _ h => ⟨_, isShru_ushiftRight rfl _, exec_of_ready rfl h⟩,
    fun _ h => ⟨_, isShru_ushiftRight (hlong _) _, exec_of_ready rfl h⟩,
    fun _ h => ⟨_, isShl_shiftLeft rfl _, exec_of_ready rfl h⟩,
    fun _ h => ⟨_, isShl_shiftLeft (hlong _) _, exec_of_ready rfl h⟩⟩

/-! ### Bit fields (O18) -/

theorem fieldBoundsOf_fst (a : Word) : (fieldBoundsOf a).1 = a.toNat / 32 % 32 := by
  simp [fieldBoundsOf, BitVec.extractLsb'_toNat, Nat.shiftRight_eq_div_pow]

theorem fieldBoundsOf_snd (a : Word) : (fieldBoundsOf a).2 = a.toNat % 32 := by
  simp [fieldBoundsOf, BitVec.extractLsb'_toNat]

section
variable {csta cstb j : Nat}

theorem fieldMask_bit (h : csta ≤ cstb) (hj : j < 32) :
    (fieldMask csta cstb).getLsbD j = (decide (csta ≤ j) && decide (j ≤ cstb)) := by
  rw [fieldMask, BitVec.getLsbD_ofNat, Nat.testBit_mul_two_pow, Nat.testBit_two_pow_sub_one, decide_eq_true hj, Bool.true_and]
  by_cases hle : csta ≤ j
  · have hlast : j - csta < cstb - csta + 1 ↔ j ≤ cstb := by omega
    rw [decide_eq_decide.2 hlast]
  · simp [hle]

theorem clearField_bit (h : csta ≤ cstb) (b : Word) (hj : j < 32) :
    (clearField b csta cstb).getLsbD j = (!(decide (csta ≤ j) && decide (j ≤ cstb)) && b.getLsbD j) := by
  rw [clearField, BitVec.getLsbD_and, BitVec.getLsbD_not, fieldMask_bit h hj, decide_eq_true hj, Bool.true_and, Bool.and_comm]

theorem setField_bit (h : csta ≤ cstb) (b : Word) (hj : j < 32) :
    (setField b csta cstb).getLsbD j = ((decide (csta ≤ j) && decide (j ≤ cstb)) || b.getLsbD j) := by
  rw [setField, BitVec.getLsbD_or, fieldMask_bit h hj, Bool.or_comm]

/-- EXT takes bit `j` from the bit `j + cstb` of the word shifted left, or from its sign (R219). -/
theorem extractSigned_bit (b : Word) (hj : j < 32) : (extractSigned b csta cstb).getLsbD j =
    (decide (csta ≤ min (j + cstb) 31) && b.getLsbD (min (j + cstb) 31 - csta)) :=
  (isShr_sshiftRight rfl _ j hj).trans (isShl_shiftLeft rfl b _ (by omega))

/-- EXTU takes bit `j` from the bit `j + cstb` of the word shifted left, if there is one (R220). -/
theorem extractUnsigned_bit (b : Word) (hj : j < 32) : (extractUnsigned b csta cstb).getLsbD j =
    (decide (j + cstb < 32) && decide (csta ≤ j + cstb) && b.getLsbD (j + cstb - csta)) := by
  rw [extractUnsigned, isShru_ushiftRight rfl _ j hj, Bool.and_assoc]
  by_cases hlt : j + cstb < 32
  · rw [isShl_shiftLeft rfl b _ hlt]
  · simp [hlt]

end

section
variable {s : State} {i : Instr} {side : Side} {dst : RegNum} {f : Nat → Nat → Word} {p q csta cstb : Nat}

/-! CLR and SET with bounds in order, and with reversed bounds (R218, R221). `p` and `q` are the bounds as the model reads them,
`csta` and `cstb` their values. -/

theorem exec_of_bounds_le
    (hi : exec i s = issue i s (if p ≤ q then .next (s.putWord side dst (f p q) 0) else .fault .fieldBounds))
    (hp : p = csta) (hq : q = cstb) (hle : csta ≤ cstb) (h : ready s i) :
    exec i s = .next (s.putWord side dst (f csta cstb) 0) := by
  subst hp hq
  rw [exec_of_ready hi h, if_pos hle]

theorem exec_of_bounds_lt
    (hi : exec i s = issue i s (if p ≤ q then .next (s.putWord side dst (f p q) 0) else .fault .fieldBounds))
    (hp : p = csta) (hq : q = cstb) (hlt : cstb < csta) (h : ready s i) : exec i s = .fault .fieldBounds := by
  subst hp hq
  rw [exec_of_ready hi h, if_neg (not_le.2 hlt)]

end

/-- Settles O18: the bounds that a register form reads are `fieldBoundsOf` src1. -/
theorem bitFieldResults : Obligations.BitFieldResults := by
  intro s
  exact ⟨fun _ hle h => ⟨_, exec_of_bounds_le (f := clearField _) rfl rfl rfl hle h, fun _ => clearField_bit hle _⟩,
    fun _ hle h => ⟨_, exec_of_bounds_le (f := clearField _) rfl (fieldBoundsOf_fst _) (fieldBoundsOf_snd _) hle h,
      fun _ => clearField_bit hle _⟩,
    fun _ hle h => ⟨_, exec_of_bounds_le (f := setField _) rfl rfl rfl hle h, fun _ => setField_bit hle _⟩,
    fun _ hle h => ⟨_, exec_of_bounds_le (f := setField _) rfl (fieldBoundsOf_fst _) (fieldBoundsOf_snd _) hle h,
      fun _ => setField_bit hle _⟩,
    fun _ h => ⟨_, exec_of_ready rfl h, fun _ => extractSigned_bit _⟩,
    fun _ h => ⟨_, writesWord_of_issue rfl (congrArg₂ _ (fieldBoundsOf_fst _) (fieldBoundsOf_snd _)) h,
      fun _ => extractSigned_bit _⟩,
    fun _ h => ⟨_, exec_of_ready rfl h, fun _ => extractUnsigned_bit _⟩,
    fun _ h => ⟨_, writesWord_of_issue rfl (congrArg₂ _ (fieldBoundsOf_fst _) (fieldBoundsOf_snd _)) h,
      fun _ => extractUnsigned_bit _⟩,
    fun _ hlt h => exec_of_bounds_lt (f := clearField _) rfl rfl rfl hlt h,
    fun _ hlt h => exec_of_bounds_lt (f := clearField _) rfl (fieldBoundsOf_fst _) (fieldBoundsOf_snd _) hlt h,
    fun _ hlt h => exec_of_bounds_lt (f := setField _) rfl rfl rfl hlt h,
    fun _ hlt h => exec_of_bounds_lt (f := setField _) rfl (fieldBoundsOf_fst _) (fieldBoundsOf_snd _) hlt h⟩

/-! ### Branches (O25) -/

/-- The target of a displacement (R214). -/
theorem trunc_dispTarget (a : Word) (d : BitVec 21) : trunc 32 (zext a + sext d * 4) = a + 4 * d.signExtend 32 :=
  trunc_add (trunc_zext a) ((BitVec.ofInt_mul _ _).trans (BitVec.mul_comm _ _))

/-- A branch to a register: its target in flight, or the fault of a misaligned one (R86, R215-R217). -/
theorem exec_of_branchTo {s : State} {i : Instr} {a : Word} {k : BranchKind} (hi : exec i s = issue i s (s.branchTo a k))
    (h : ready s i) : (a.toNat % 4 = 0 → exec i s = .next (s.pendBranch a k)) ∧
      (a.toNat % 4 ≠ 0 → exec i s = .fault .misalignedBranchTarget) := by
  rw [exec_of_ready hi h]
  exact ⟨fun haligned => if_pos haligned, fun hmisaligned => if_neg hmisaligned⟩

/-- Settles O25: the displacement form computes its target, the others branch to a register; five is `branchDelay`. -/
theorem branchResults : Obligations.BranchResults := by
  intro s
  refine ⟨fun o h => ?_, fun o a ha h => ?_, fun _ h => exec_of_branchTo rfl h, fun _ h => exec_of_branchTo rfl h,
    fun a k => State.pendBranch_flight_pb s a k⟩
  · rw [← trunc_dispTarget]
    exact exec_of_ready rfl h
  · subst ha
    exact exec_of_branchTo rfl h

end Sys2Proof.Machine

/-! PROOFS. The multiplies of the .M units (O19, O20; R249-R270, R409). -/
namespace Sys2Proof.Machine

/-! ### Products of exact integers truncated (R9) -/

section
variable {m n w : Nat}

theorem trunc_mul {a b : Int} {x y : BitVec w} (ha : trunc w a = x) (hb : trunc w b = y) : trunc w (a * b) = x * y :=
  (BitVec.ofInt_mul a b).trans (congrArg₂ _ ha hb)

theorem trunc_sext_mul_sext (x : BitVec m) (y : BitVec n) : trunc w (sext x * sext y) = x.signExtend w * y.signExtend w :=
  trunc_mul (trunc_sext_signExtend x) (trunc_sext_signExtend y)

theorem trunc_sext_mul_zext (x : BitVec m) (y : BitVec n) : trunc w (sext x * zext y) = x.signExtend w * y.setWidth w :=
  trunc_mul (trunc_sext_signExtend x) (trunc_zext_setWidth y)

theorem trunc_zext_mul_sext (x : BitVec m) (y : BitVec n) : trunc w (zext x * sext y) = x.setWidth w * y.signExtend w :=
  trunc_mul (trunc_zext_setWidth x) (trunc_sext_signExtend y)

theorem trunc_zext_mul_zext (x : BitVec m) (y : BitVec n) : trunc w (zext x * zext y) = x.setWidth w * y.setWidth w :=
  trunc_mul (trunc_zext_setWidth x) (trunc_zext_setWidth y)

end

/-! ### Multiplies (O19) -/

/-- Settles O19: each product is that of the halves, extended as the form says; the one delay slot is `mulDelay`. -/
theorem multiplyResults : Obligations.MultiplyResults := fun _ =>
  ⟨fun _ => writesWord_of_issue rfl (trunc_sext_mul_sext _ _),
    fun _ => writesWord_of_issue rfl (trunc_zext_mul_zext _ _),
    fun _ => writesWord_of_issue rfl (trunc_zext_mul_sext _ _),
    fun _ => writesWord_of_issue rfl (trunc_sext_mul_zext _ _),
    fun _ => writesWord_of_issue rfl (trunc_sext_mul_sext _ _),
    fun _ => writesWord_of_issue rfl (trunc_zext_mul_zext _ _),
    fun _ => writesWord_of_issue rfl (trunc_zext_mul_sext _ _),
    fun _ => writesWord_of_issue rfl (trunc_sext_mul_zext _ _),
    fun _ => writesWord_of_issue rfl (trunc_sext_mul_sext _ _),
    fun _ => writesWord_of_issue rfl (trunc_zext_mul_zext _ _),
    fun _ => writesWord_of_issue rfl (trunc_zext_mul_sext _ _),
    fun _ => writesWord_of_issue rfl (trunc_sext_mul_zext _ _),
    fun _ => writesWord_of_issue rfl (trunc_sext_mul_sext _ _),
    fun _ => writesWord_of_issue rfl (trunc_zext_mul_zext _ _),
    fun _ => writesWord_of_issue rfl (trunc_zext_mul_sext _ _),
    fun _ => writesWord_of_issue rfl (trunc_sext_mul_zext _ _),
    fun _ => writesWord_of_issue rfl (trunc_sext_mul_sext _ _),
    fun _ => writesWord_of_issue rfl (trunc_sext_mul_zext _ _)⟩

/-! ### Saturating multiplies (O20) -/

/-- Of the numbers from `-n` to `n - 1`, only `-n` times itself reaches `n * n`: a product that large has two negative
factors. -/
theorem mul_self_le_mul_iff {n x y : Int} (hx : -n ≤ x) (hx' : x < n) (hy : -n ≤ y) (hy' : y < n) :
    n * n ≤ x * y ↔ x = -n ∧ y = -n := by
  constructor
  · intro h
    have hxneg : x < 0 := by nlinarith
    have hyneg : y < 0 := by nlinarith
    constructor <;> nlinarith
  · rintro ⟨rfl, rfl⟩
    exact (neg_mul_neg n n).ge

/-- The doubled product of two halves is too large for 32 bits exactly when both are the most negative one (R267). -/
theorem doubled_product_gt_iff (a b : BitVec 16) : 2 ^ 31 - 1 < sext a * sext b * 2 ↔ a = 0x8000 ∧ b = 0x8000 := by
  have hmin (c : BitVec 16) : c = 0x8000 ↔ sext c = -2 ^ 15 := BitVec.toInt_inj.symm
  rw [hmin, hmin, ← mul_self_le_mul_iff (x := sext a) (y := sext b) a.le_toInt a.toInt_lt b.le_toInt b.toInt_lt]
  omega

/-- The doubled product of two halves is never too small for 32 bits (R267). -/
theorem le_doubled_product (a b : BitVec 16) : -2 ^ 31 ≤ sext a * sext b * 2 := by
  have hle : -2 ^ 30 ≤ sext a * sext b := BitVec.le_toInt_mul_toInt
  omega

theorem trunc_doubled_product (a b : BitVec 16) :
    trunc 32 (sext a * sext b * 2) = 2 * (a.signExtend 32 * b.signExtend 32) :=
  (trunc_mul (trunc_sext_mul_sext a b) rfl).trans (BitVec.mul_comm _ _)

/-- What the saturating multiplies write, and when they set SAT (R267-R270). -/
theorem putSat_doubled_product (s : State) (side : Side) (dst : RegNum) (a b : BitVec 16) (d : Nat) :
    s.putSat side dst (sext a * sext b * 2) d =
      if a = 0x8000 ∧ b = 0x8000 then (s.putWord side dst 0x7FFFFFFF d).pendSat d
      else s.putWord side dst (2 * (a.signExtend 32 * b.signExtend 32)) d := by
  simp only [putSat_eq_satState, satState, doubled_product_gt_iff, if_neg (le_doubled_product a b).not_gt,
    ← trunc_doubled_product]

/-- An instruction that saturates a doubled product writes what `putSat_doubled_product` says. -/
theorem exec_of_doubled_product {s : State} {i : Instr} {side : Side} {dst : RegNum} {a b : BitVec 16} {d : Nat}
    (hi : exec i s = issue i s (.next (s.putSat side dst (sext a * sext b * 2) d))) (h : ready s i) :
    exec i s = .next (if a = 0x8000 ∧ b = 0x8000 then (s.putWord side dst 0x7FFFFFFF d).pendSat d
      else s.putWord side dst (2 * (a.signExtend 32 * b.signExtend 32)) d) :=
  (exec_of_ready hi h).trans (congrArg _ (putSat_doubled_product s side dst a b d))

/-- Settles O20: each of the four saturates the doubled product of its halves. -/
theorem saturatingMultiplyResults : Obligations.SaturatingMultiplyResults := fun _ =>
  ⟨fun _ => exec_of_doubled_product rfl, fun _ => exec_of_doubled_product rfl, fun _ => exec_of_doubled_product rfl,
    fun _ => exec_of_doubled_product rfl⟩

end Sys2Proof.Machine

/-! PROOFS. The addresses of the .D units, linear and circular, and the instructions that compute or use them (O21, O22, O23;
R38, R39, R85, R282, R283, R286-R298). -/
namespace Sys2Proof.Machine

/-! ### Address computation under AMR (R283) -/

/-- The field of AMR that the model reads is the mode number of the register (R38). -/
theorem amrField_toNat (amr : Word) (side : Side) (r : RegNum) : (amrField amr side r).toNat = amrMode amr side r := by
  have hfield (k : Nat) : (amr.extractLsb' k 2).toNat = amr.toNat / 2 ^ k % 4 := by
    rw [BitVec.extractLsb'_toNat, Nat.shiftRight_eq_div_pow]
  by_cases h : 4 ≤ r.toNat ∧ r.toNat ≤ 7
  · obtain hr | hr | hr | hr : r.toNat = 4 ∨ r.toNat = 5 ∨ r.toNat = 6 ∨ r.toNat = 7 := by omega
    all_goals cases side <;> simp [amrField, amrMode, hr, hfield]
  · rw [amrMode, if_neg h]
    unfold amrField
    split
    case h_9 => rfl
    all_goals omega

theorem amrMode_lt (amr : Word) (side : Side) (r : RegNum) : amrMode amr side r < 4 :=
  amrField_toNat amr side r ▸ (amrField amr side r).isLt

section
variable {amr : Word} {side : Side} {r : RegNum}

/-! What each mode number selects (R38, R39). -/

theorem addressing_linear (h : amrMode amr side r = 0) :
    addressing amr side r = .linear := by
  simp [addressing, amrField_toNat, h]

theorem addressing_reserved (h : amrMode amr side r = 3) :
    addressing amr side r = .reserved := by
  simp [addressing, amrField_toNat, h]

/-- The block size comes from BK0 or BK1, as the mode says. -/
theorem addressing_circular (h : amrMode amr side r = 1 ∨ amrMode amr side r = 2) :
    ∃ n, addressing amr side r = .circular n ∧ n.toNat = blockExponent amr (amrMode amr side r) := by
  rcases h with h | h
  all_goals
    simp only [addressing, amrField_toNat, h]
    exact ⟨_, rfl, by simp [blockExponent, BitVec.extractLsb'_toNat, Nat.shiftRight_eq_div_pow]⟩

end

theorem blockMask_bit (n : BitVec 5) {j : Nat} (hj : j < 32) : (blockMask n).getLsbD j = decide (j ≤ n.toNat) := by
  rw [blockMask, BitVec.getLsbD_ofNat, Nat.testBit_two_pow_sub_one, decide_eq_true hj, Bool.true_and,
    decide_eq_decide.2 Nat.lt_succ_iff]

/-- The mask takes the bits up to `n` from the sum and the others from the base (R40, R283). -/
theorem circular_bit (v sum : Word) (n : BitVec 5) {j : Nat} (hj : j < 32) :
    ((v &&& ~~~(blockMask n)) ||| (sum &&& blockMask n)).getLsbD j =
      if j ≤ n.toNat then sum.getLsbD j else v.getLsbD j := by
  rw [BitVec.getLsbD_or, BitVec.getLsbD_and, BitVec.getLsbD_and, BitVec.getLsbD_not, blockMask_bit n hj, decide_eq_true hj]
  by_cases h : j ≤ n.toNat <;> simp [h]

section
variable {amr : Word} {side : Side} {r : RegNum}

theorem addressAdd_of_reserved (h : amrMode amr side r = 3) (v off : Word) (add : Bool) :
    addressAdd (addressing amr side r) v off add = .error .reservedAmrMode := by
  rw [addressing_reserved h]; rfl

/-- Outside mode 11 the address computation has a value, the only one with the property of `isAddress`. -/
theorem addressAdd_spec (h : amrMode amr side r ≠ 3) (v off : Word) (add : Bool) :
    ∃ w, addressAdd (addressing amr side r) v off add = .ok w ∧
      ∀ x, isAddress amr side r v off add x ↔ x = w := by
  have hlt := amrMode_lt amr side r
  by_cases hlinear : amrMode amr side r = 0
  · rw [addressing_linear hlinear]
    exact ⟨_, rfl, fun x => by simp [isAddress, hlinear]⟩
  · have hmode : amrMode amr side r = 1 ∨ amrMode amr side r = 2 := by omega
    obtain ⟨n, hn, hexponent⟩ := addressing_circular hmode
    rw [hn]
    refine ⟨_, rfl, fun x => ?_⟩
    simp only [isAddress, hlinear, hmode, false_imp_iff, true_and, true_imp_iff, ← hexponent, BitVec.eq_of_getLsbD_eq_iff]
    exact forall₂_congr fun j hj => by rw [circular_bit _ _ _ hj]

theorem addressAdd_of_isAddress {v off w : Word} {add : Bool} (h : amrMode amr side r ≠ 3)
    (hw : isAddress amr side r v off add w) : addressAdd (addressing amr side r) v off add = .ok w := by
  obtain ⟨x, hx, hunique⟩ := addressAdd_spec h v off add
  rw [hx, (hunique w).1 hw]

end

/-- Shifting an offset left by the logarithm of the size multiplies it by the size (R282, R289). -/
theorem shiftLeft_scale (a : Word) (z : Access) : a <<< z.scale = BitVec.ofNat 32 z.bytes * a := by
  cases z <;> simp only [Access.scale, Access.bytes] <;> bv_omega

/-! ### ADDAB to SUBAW (O21) -/

theorem computesAddress_of_putAddress {s : State} {i : Instr} {side : Side} {base dst : RegNum} {a : Word} {z : Access}
    {add : Bool} (hi : exec i s = issue i s (s.putAddress side base dst a z add)) :
    computesAddress s i side base dst (BitVec.ofNat 32 z.bytes * a) add := by
  intro h
  rw [exec_of_ready hi h, State.putAddress, State.address, shiftLeft_scale]
  constructor
  · intro hmode
    rw [addressAdd_of_reserved hmode]
  · intro hmode
    obtain ⟨w, hw, hunique⟩ := addressAdd_spec hmode (s.gpr side base) (BitVec.ofNat 32 z.bytes * a) add
    exact ⟨w, (hunique w).2 rfl, by rw [hw]⟩

/-- Settles O21: each form scales its offset by 1, 2 or 4; the last part is `addressAdd_spec`. -/
theorem addressArithmeticResults : Obligations.AddressArithmeticResults := by
  intro s
  refine ⟨fun _ => computesAddress_of_putAddress (z := .byte) rfl, fun _ => computesAddress_of_putAddress (z := .byte) rfl,
    fun _ => computesAddress_of_putAddress (z := .half) rfl, fun _ => computesAddress_of_putAddress (z := .half) rfl,
    fun _ => computesAddress_of_putAddress (z := .word) rfl, fun _ => computesAddress_of_putAddress (z := .word) rfl,
    fun _ => computesAddress_of_putAddress (z := .byte) rfl, fun _ => computesAddress_of_putAddress (z := .byte) rfl,
    fun _ => computesAddress_of_putAddress (z := .half) rfl, fun _ => computesAddress_of_putAddress (z := .half) rfl,
    fun _ => computesAddress_of_putAddress (z := .word) rfl, fun _ => computesAddress_of_putAddress (z := .word) rfl,
    fun side r v off add hmode => ?_⟩
  obtain ⟨w, -, hunique⟩ := addressAdd_spec hmode v off add
  exact ⟨w, (hunique w).2 rfl, fun x => (hunique x).1⟩

/-! ### Loads and stores of format LSR (O22, O23) -/

section
variable {s : State} {o : MemForm} {z : Access}

/-- The offset that the model shifts left is the scaled offset of the statement (R282). -/
theorem offset_shiftLeft_scale (s : State) (o : MemForm) (z : Access) :
    s.offset o.y o.mode.offset <<< z.scale = scaledOffset s o z.bytes := by
  rw [shiftLeft_scale, scaledOffset]
  cases o.mode.offset <;> rfl

theorem lsrAddress_of_reserved (h : amrMode s.ctrl.amr o.y o.base = 3) : s.lsrAddress o z = .error .reservedAmrMode := by
  rw [State.lsrAddress, State.address, addressAdd_of_reserved h]

/-- The address used and the base update in terms of the sum or difference `w`, in each of the update modes (R282). -/
theorem lsrAddress_of_isAddress {w : Word} (h : amrMode s.ctrl.amr o.y o.base ≠ 3)
    (hw : isAddress s.ctrl.amr o.y o.base (s.gpr o.y o.base) (scaledOffset s o z.bytes) o.mode.add w) :
    ∃ u, s.lsrAddress o z = .ok (lsrUsed s o w, u) ∧ s.putBase o.y o.base u = lsrUpdated s o w := by
  rw [State.lsrAddress, State.address, offset_shiftLeft_scale, addressAdd_of_isAddress h hw, lsrUsed, lsrUpdated]
  cases o.mode.update with
  | none => exact ⟨none, rfl, rfl⟩
  | pre => exact ⟨some w, rfl, rfl⟩
  | post => exact ⟨some w, rfl, rfl⟩

/-- What E1 of a load and of a store of format LSR have in common: `access` is the entry put in flight (R288). -/
def State.accessLsr (s : State) (o : MemForm) (z : Access) (access : Word → State → State) : Result :=
  match s.lsrAddress o z with
  | .error f => .fault f
  | .ok (a, u) => if aligned z a then .next (access a (s.putBase o.y o.base u)) else .fault .misalignedAccess

theorem loadLsr_eq_accessLsr (s : State) (o : MemForm) (z : Access) (g : Bool) :
    s.loadLsr o z g = s.accessLsr o z fun a t => t.pendLoad a z g o.side o.data := rfl

theorem storeLsr_eq_accessLsr (s : State) (o : MemForm) (z : Access) :
    s.storeLsr o z = s.accessLsr o z fun a t => t.pendStore a z (s.gpr o.side o.data) := rfl

theorem accessesLsr_of_accessLsr {i : Instr} {access : Word → State → State}
    (hi : exec i s = issue i s (s.accessLsr o z access)) : accessesLsr s i o z.bytes access := by
  intro h
  rw [exec_of_ready hi h, State.accessLsr]
  constructor
  · intro hmode
    rw [lsrAddress_of_reserved hmode]
  · intro w hmode hw
    obtain ⟨u, haddress, hbase⟩ := lsrAddress_of_isAddress hmode hw
    simp only [haddress, hbase]
    exact ⟨fun haligned => if_pos (decide_eq_true haligned),
      fun hmisaligned => if_neg (mt of_decide_eq_true hmisaligned)⟩

theorem accessesLsr_of_load {i : Instr} {g : Bool} (hi : exec i s = issue i s (s.loadLsr o z g)) :
    accessesLsr s i o z.bytes fun a t => t.pendLoad a z g o.side o.data :=
  accessesLsr_of_accessLsr (hi.trans (congrArg _ (loadLsr_eq_accessLsr s o z g)))

theorem accessesLsr_of_store {i : Instr} (hi : exec i s = issue i s (s.storeLsr o z)) :
    accessesLsr s i o z.bytes fun a t => t.pendStore a z (s.gpr o.side o.data) :=
  accessesLsr_of_accessLsr (hi.trans (congrArg _ (storeLsr_eq_accessLsr s o z)))

end

/-- Settles O22: each load is E1 of a format LSR access of its size and extension. -/
theorem loadsComputeAddressAndBase : Obligations.LoadsComputeAddressAndBase := fun _ =>
  ⟨fun _ => accessesLsr_of_load (z := .byte) rfl, fun _ => accessesLsr_of_load (z := .byte) rfl,
    fun _ => accessesLsr_of_load (z := .half) rfl, fun _ => accessesLsr_of_load (z := .half) rfl,
    fun _ => accessesLsr_of_load (z := .word) rfl, fun _ => accessesLsr_of_load (z := .dword) rfl⟩

/-- Settles O23: each store is E1 of a format LSR access of its size; its value is read from the state before the base update. -/
theorem storesComputeAddressAndBase : Obligations.StoresComputeAddressAndBase := fun _ =>
  ⟨fun _ => accessesLsr_of_store (z := .byte) rfl, fun _ => accessesLsr_of_store (z := .half) rfl,
    fun _ => accessesLsr_of_store (z := .word) rfl⟩

end Sys2Proof.Machine

/-! PROOFS. The interrupt that is taken (O40, O45) and the entry to it (O42, O43; R343-R353, R391). -/
namespace Sys2Proof.Machine

/-! ### The interrupt that is taken (R343, R348-R350, R391) -/

/-- What `find?` finds in a rising list: the least of its elements with the property. -/
theorem find?_eq_some_iff_of_sorted {p : Nat → Bool} {l : List Nat} (hl : l.Pairwise (· < ·)) {n : Nat} :
    l.find? p = some n ↔ n ∈ l ∧ p n = true ∧ ∀ m ∈ l, m < n → p m = false := by
  refine ⟨find?_eq_some_of_sorted hl, fun ⟨hn, hp, hleast⟩ => ?_⟩
  cases hf : l.find? p with
  | none => exact absurd hp (List.find?_eq_none.1 hf n hn)
  | some m =>
    obtain ⟨hm, hpm, hmleast⟩ := find?_eq_some_of_sorted hl hf
    have hge : ¬ m < n := fun h => by simp [hleast m hm h] at hpm
    have hle : ¬ n < m := fun h => by simp [hmleast n hn h] at hp
    rw [show m = n by omega]

theorem mem_maskableNumbers (n : Nat) : n ∈ interruptNumbers.drop 1 ↔ 4 ≤ n ∧ n ≤ 15 := by
  simp only [interruptNumbers, List.drop_succ_cons, List.drop_zero, List.mem_cons, List.not_mem_nil, or_false]
  omega

/-- The first maskable interrupt that is pending and enabled (R348). -/
theorem find?_maskable_eq_some_iff (c : Ctrl) (n : Nat) :
    (interruptNumbers.drop 1).find? (fun n => (c.ifr &&& c.ier).getLsbD n) = some n ↔
      4 ≤ n ∧ n ≤ 15 ∧ c.ifr.getLsbD n = true ∧ c.ier.getLsbD n = true ∧
        ∀ m, 4 ≤ m → m < n → ¬ (c.ifr.getLsbD m = true ∧ c.ier.getLsbD m = true) := by
  rw [find?_eq_some_iff_of_sorted (interruptNumbers_sorted.sublist (List.drop_sublist 1 _))]
  simp only [mem_maskableNumbers, BitVec.getLsbD_and, Bool.and_eq_true, ← Bool.not_eq_true]
  constructor
  · rintro ⟨⟨h4, h15⟩, ⟨hifr, hier⟩, hleast⟩
    exact ⟨h4, h15, hifr, hier, fun m hm hlt => hleast m ⟨hm, by omega⟩ hlt⟩
  · rintro ⟨h4, h15, hifr, hier, hleast⟩
    exact ⟨⟨h4, h15⟩, ⟨hifr, hier⟩, fun m hm hlt => hleast m hm.1 hlt⟩

/-- The interrupt that can be taken: the NMI, else the first maskable one that is pending and enabled (R348, R350). -/
theorem readyInterrupt_eq_some_iff {s : State} {n : Nat} : readyInterrupt s = some n ↔
    s.flight.bshadow = 0 ∧ s.ctrl.ier.getLsbD 1 = true ∧
      ((n = 1 ∧ s.ctrl.ifr.getLsbD 1 = true) ∨
       (s.ctrl.ifr.getLsbD 1 = false ∧ s.ctrl.csr.getLsbD 0 = true ∧
        (interruptNumbers.drop 1).find? (fun n => (s.ctrl.ifr &&& s.ctrl.ier).getLsbD n) = some n)) := by
  unfold readyInterrupt Ctrl.nmie Ctrl.gie
  split
  case isTrue hopen =>
    simp only [hopen, true_and]
    cases hnmi : s.ctrl.ifr.getLsbD 1 with
    | true => simpa using eq_comm
    | false => cases hgie : s.ctrl.csr.getLsbD 0 <;> simp
  case isFalse hclosed =>
    refine iff_of_false (by simp) fun ⟨hshadow, hnmie, _⟩ => hclosed ⟨hshadow, hnmie⟩

theorem step_of_reset {s : State} (h : s.input.reset = true) : step s = .next (resetEntry s.advanceEnv) :=
  if_pos h

/-- A ready interrupt that is not held back is taken in place of the packet (R155 step 1). -/
theorem step_of_ready {s : State} {n : Nat} (hreset : s.input.reset = false) (hhold : s.input.hold = false)
    (h : readyInterrupt (raiseFlags s.advanceEnv s.input.requests) = some n) :
    step s = takeInterrupt n s.input.requests (raiseFlags s.advanceEnv s.input.requests) := by
  simp [step, cycle, hreset, hhold, h]

/-- Settles O40: reset, then the first interrupt of the list. -/
theorem interruptPriorityOrder : Obligations.InterruptPriorityOrder := by
  intro s
  refine ⟨step_of_reset, fun n hreset hhold => step_of_ready hreset hhold, fun n => ?_⟩
  rw [readyInterrupt_eq_some_iff, find?_maskable_eq_some_iff]
  tauto

/-! ### The entry to an interrupt (R345, R352, R353) -/

theorem serviceAddress_toNat (c : Ctrl) (n : Nat) :
    (serviceAddress c n).toNat = (c.istb.toNat * 1024 + 32 * n) % 2 ^ 32 := by
  have hbase : (c.istb ++ 0#10).toNat = c.istb.toNat * 1024 := by
    rw [BitVec.toNat_append, BitVec.toNat_zero, Nat.or_zero, Nat.shiftLeft_eq]
  rw [serviceAddress, BitVec.toNat_add, BitVec.toNat_ofNat, hbase]
  omega

/-- The NMI clears its flag and NMIE and saves pc in NRP (R353). -/
theorem Ctrl.entry_nmi (c : Ctrl) (pc : Word) :
    c.entry 1 pc = { c with ifr := c.ifr &&& ~~~(2 : Word), ier := c.ier &&& ~~~(2 : Word), nrp := pc } := rfl

/-- A maskable interrupt clears its flag, moves GIE to PGIE and saves pc in IRP (R352). -/
theorem Ctrl.entry_maskable (c : Ctrl) {n : Nat} (hn : n ≠ 1) (pc : Word) :
    c.entry n pc = { c with
      ifr := c.ifr &&& ~~~(BitVec.ofNat 32 (2 ^ n))
      csr := (c.csr &&& ~~~(3 : Word)) ||| ((c.csr &&& 1) <<< 1), irp := pc } := if_neg hn

/-- A word with one bit cleared. -/
theorem and_not_pow_bit (x : Word) (n : Nat) {j : Nat} (hj : j < 32) :
    (x &&& ~~~(BitVec.ofNat 32 (2 ^ n))).getLsbD j = (!decide (j = n) && x.getLsbD j) := by
  rw [BitVec.getLsbD_and, BitVec.getLsbD_not, BitVec.getLsbD_ofNat, Nat.testBit_two_pow, Bool.and_comm]
  simp [hj, eq_comm]

/-- The entry clears the flag of the interrupt taken and no other. -/
theorem Ctrl.entry_ifr_bit (c : Ctrl) (n : Nat) (pc : Word) {j : Nat} (hj : j < 32) :
    (c.entry n pc).ifr.getLsbD j = (!decide (j = n) && c.ifr.getLsbD j) := by
  by_cases hn : n = 1
  · subst hn; exact and_not_pow_bit c.ifr 1 hj
  · rw [Ctrl.entry_maskable c hn]; exact and_not_pow_bit c.ifr n hj

/-- GIE is cleared, PGIE takes its old value, and the rest of CSR stays (R352). -/
theorem Ctrl.entry_csr_bit (c : Ctrl) {n : Nat} (hn : n ≠ 1) (pc : Word) {j : Nat} (hj : j < 32) :
    (c.entry n pc).csr.getLsbD j =
      if j = 0 then false else if j = 1 then c.csr.getLsbD 0 else c.csr.getLsbD j := by
  have hmask : ∀ j < 32, (3 : Word).getLsbD j = decide (j = 0 ∨ j = 1) := by decide
  simp only [Ctrl.entry_maskable c hn, BitVec.getLsbD_or, BitVec.getLsbD_and, BitVec.getLsbD_not, hmask j hj,
    BitVec.getLsbD_shiftLeft, word_one_bit (j - 1) (by omega), hj]
  by_cases h0 : j = 0
  · simp [h0]
  · by_cases h1 : j = 1
    · simp [h1]
    · have : j - 1 ≠ 0 := by omega
      simp [h0, h1, this]

/-- Draining a machine with nothing in flight does nothing. -/
theorem drain_of_drained {s : State} (h : s.flight.drained = true) (r : Word) (k : Nat) : drain r k s = .next s := by
  cases k with
  | zero => rfl
  | succ k => exact if_pos h

theorem takeInterrupt_of_drained {s : State} (h : s.flight.drained = true) (n : Nat) (r : Word) :
    takeInterrupt n r s = .next (enterInterrupt n s) := by
  rw [takeInterrupt, drain_of_drained h, andThen_next]

/-- Settles O42. -/
theorem maskableInterruptEntry : Obligations.MaskableInterruptEntry := by
  intro s n requests h4 _ hdrained
  have hn : n ≠ 1 := by omega
  refine ⟨_, takeInterrupt_of_drained hdrained n requests, serviceAddress_toNat s.ctrl n, rfl, rfl, rfl, rfl, ?_,
    fun j hj => ⟨Ctrl.entry_ifr_bit s.ctrl n s.pc hj, Ctrl.entry_csr_bit s.ctrl hn s.pc hj⟩⟩
  rw [enterInterrupt_ctrl, Ctrl.entry_maskable s.ctrl hn]

/-- Settles O43: the NMI clears NMIE as it clears its flag, bit 1. -/
theorem nonMaskableInterruptEntry : Obligations.NonMaskableInterruptEntry := by
  intro s n requests hn hdrained
  subst hn
  exact ⟨_, takeInterrupt_of_drained hdrained 1 requests, serviceAddress_toNat s.ctrl 1, rfl, rfl, rfl, rfl, rfl,
    fun j hj => ⟨Ctrl.entry_ifr_bit s.ctrl 1 s.pc hj, and_not_pow_bit s.ctrl.ier 1 hj⟩⟩

/-! ### Branches while an interrupt is taken (R54, R350) -/

/-- Taking an interrupt leaves the parameters, pending branches and, until the entry, pc alone. -/
theorem takeInterrupt_frame {s t : State} {n : Nat} {r : Word} (h : takeInterrupt n r s = .next t) :
    t.params = s.params ∧ t.flight.pb = s.flight.pb ∧ ∃ u, u.pc = s.pc ∧ t = enterInterrupt n u := by
  obtain ⟨u, hu, rfl⟩ := takeInterrupt_eq_next h
  obtain ⟨hparams, hpb, hpc⟩ : u.params = s.params ∧ u.flight.pb = s.flight.pb ∧ u.pc = s.pc := by
    refine drain_keeps (P := fun u => u.params = s.params ∧ u.flight.pb = s.flight.pb ∧ u.pc = s.pc) ?mem ?land _
      ⟨rfl, rfl, rfl⟩ hu
    case mem =>
      intro u v ⟨hp, hb, hpc⟩ huv
      obtain ⟨hvp, -, -, hvpc, -⟩ := memPhase_frame huv
      exact ⟨hvp.trans hp, (memPhase_branches huv).1.trans hb, hvpc.trans hpc⟩
    case land =>
      intro u v ⟨hp, hb, hpc⟩ huv
      obtain ⟨hvp, hvpc, -, -, -, hvb, -⟩ := landPhase_frame huv
      exact ⟨hvp.trans hp, hvb.trans hb, hvpc.trans hpc⟩
  exact ⟨hparams, hpb, u, hpc, rfl⟩

/-- Settles O45: outside the branch shadow no branch pends, and taking an interrupt adds none. -/
theorem noBranchPendsWhenInterruptIsTaken : Obligations.NoBranchPendsWhenInterruptIsTaken := by
  rintro s n ⟨-, hshadow⟩ hready
  obtain ⟨hclosed, -⟩ := readyInterrupt_eq_some_iff.1 hready
  have hnone : s.flight.pb = [] := List.eq_nil_iff_forall_not_mem.2 fun b hb => by
    have hlt : b.left < s.flight.bshadow := hshadow b hb
    have hzero : s.flight.bshadow = 0 := hclosed
    omega
  refine ⟨hnone, fun t hreset hhold hstep => ?_⟩
  rw [step_of_ready hreset hhold hready] at hstep
  obtain ⟨-, hpb, -⟩ := takeInterrupt_frame hstep
  exact hpb.trans hnone

end Sys2Proof.Machine

/-! PROOFS. What taking an interrupt makes of everything in flight (O44; R351-R353, R95, R298, R409, R410). -/
namespace Sys2Proof.Machine

/-! ### One cycle of the drain (R351) -/

/-- A write in flight one cycle later. -/
def Write.aged (w : Write) : Write := { w with left := w.left - 1 }

/-- A load in flight one cycle later. -/
def Load.aged (l : Load) : Load := { l with left := l.left - 1 }

/-- A store in flight one cycle later. -/
def Store.aged (u : Store) : Store := { u with left := u.left - 1 }

/-- The state after one cycle of the drain: the accesses, the landing, the requests raised again. -/
def State.drainCycle (r : Word) (s : State) : State := raiseFlags (landSat s.accessed.landed) r

/-- Neither the accesses nor the writes of the cycle stop it. -/
structure State.CanDrain (s : State) : Prop where
  access : memPhase s = .next s.accessed
  nodup : (s.dueWrites.map fun w => w.target.named).Nodup

section
variable {r : Word} {s : State}

/-- The phases of the drain are that cycle. -/
theorem drainCycle_of_phases {u v : State} (hu : memPhase s = .next u) (hv : landPhase u r = .next v) :
    s.CanDrain ∧ v = s.drainCycle r := by
  obtain ⟨-, -, -, haccessed⟩ := memPhase_eq_next hu
  obtain rfl : u = s.accessed := haccessed
  obtain ⟨x, hx, rfl⟩ := landPhase_eq_next hv
  rw [landWrites_eq, memPhase_dueWrites hu] at hx
  split at hx
  · next hnodup =>
    obtain rfl := next_eq_next.1 hx
    exact ⟨⟨hu, hnodup⟩, rfl⟩
  · cases hx

theorem drain_succ_eq_next {k : Nat} {t : State} (h : drain r (k + 1) s = .next t) :
    (s.flight.drained = true ∧ t = s) ∨ (s.CanDrain ∧ drain r k (s.drainCycle r) = .next t) := by
  unfold drain at h
  split at h
  · next hdrained => exact .inl ⟨hdrained, next_eq_next.1 h⟩
  · obtain ⟨u, hu, h⟩ := andThen_eq_next.1 h
    obtain ⟨v, hv, h⟩ := andThen_eq_next.1 h
    obtain ⟨hcan, rfl⟩ := drainCycle_of_phases hu hv
    exact .inr ⟨hcan, h⟩

/-- A property that the cycles of the drain keep holds after it. -/
theorem drain_keeps_of_drainCycle {P : State → Prop} (hP : ∀ s, s.CanDrain → P s → P (s.drainCycle r)) {k : Nat}
    {t : State} (hs : P s) (h : drain r k s = .next t) : P t := by
  induction k generalizing s with
  | zero => cases h; exact hs
  | succ k ih =>
    rcases drain_succ_eq_next h with ⟨-, rfl⟩ | ⟨hcan, h⟩
    · exact hs
    · exact ih (hP s hcan hs) h

end

/-! ### The writes of a load (R298, R412) -/

section
variable {s : State} {l : Load} {u w : Write} {side : Side} {r : RegNum}

theorem mem_loadWrites : w ∈ loadWrites s l ↔
    w = ⟨.gpr l.side l.dst, loadValue l.size l.signed (memRead s.params.endian s.mem l.addr.toNat l.size.bytes), 4⟩ ∨
    (l.size = .dword ∧
      w = ⟨.gpr l.side (l.dst + 1), BitVec.ofNat 32 (memRead s.params.endian s.mem l.addr.toNat l.size.bytes / 2 ^ 32), 4⟩) := by
  obtain ⟨a, z, g, side, r, n⟩ := l
  rw [loadWrites_eq]
  cases z <;> simp [Access.bytes]

theorem left_of_mem_loadWrites (h : w ∈ loadWrites s l) : w.left = 4 := by
  rcases mem_loadWrites.1 h with rfl | ⟨-, rfl⟩ <;> rfl

theorem not_ctrl_of_mem_loadWrites (h : w ∈ loadWrites s l) (c : CtrlDest) : w.target ≠ .ctrl c := by
  rcases mem_loadWrites.1 h with rfl | ⟨-, rfl⟩ <;> simp

theorem lands_of_mem_loadWrites (h : w ∈ loadWrites s l) (ht : w.target = .gpr side r) : l.lands side r := by
  rcases mem_loadWrites.1 h with rfl | ⟨hz, rfl⟩
  · obtain ⟨rfl, rfl⟩ := Target.gpr.inj ht
    exact ⟨rfl, .inl rfl⟩
  · obtain ⟨rfl, rfl⟩ := Target.gpr.inj ht
    exact ⟨rfl, .inr ⟨hz, rfl⟩⟩

/-- The two registers of LDDW are different. -/
theorem eq_of_mem_loadWrites (hu : u ∈ loadWrites s l) (hw : w ∈ loadWrites s l) (h : u.target = w.target) : u = w := by
  have hne : l.dst ≠ l.dst + 1 := by bv_omega
  rcases mem_loadWrites.1 hu with rfl | ⟨-, rfl⟩ <;> rcases mem_loadWrites.1 hw with rfl | ⟨-, rfl⟩
  · rfl
  · exact absurd (Target.gpr.inj h).2 hne
  · exact absurd (Target.gpr.inj h).2 hne.symm
  · rfl

end

/-! ### What a cycle of the drain leaves in flight -/

section
variable {req : Word} {s : State}

/-- A write in flight after the cycle was in flight before it, or comes of a load that was due. -/
theorem mem_drainCycle_pw {w : Write} (h : w ∈ (s.drainCycle req).flight.pw) :
    (∃ u ∈ s.flight.pw, u.left ≠ 0 ∧ w = u.aged) ∨
    (∃ l ∈ s.flight.pmLoads, l.left = 0 ∧ ∃ u ∈ loadWrites s l, w = u.aged) := by
  obtain ⟨u, hu, rfl⟩ := List.mem_map.1 h
  obtain ⟨hu, hleft⟩ := List.mem_filter.1 hu
  rcases List.mem_append.1 hu with hu | hu
  · exact .inl ⟨u, hu, by simpa using hleft, rfl⟩
  · obtain ⟨l, hl, hu⟩ := List.mem_flatMap.1 hu
    obtain ⟨hl, hdue⟩ := List.mem_filter.1 hl
    exact .inr ⟨l, hl, by simpa using hdue, u, hu, rfl⟩

theorem aged_mem_drainCycle_pw {w : Write} (h : w ∈ s.flight.pw) (hleft : w.left ≠ 0) :
    w.aged ∈ (s.drainCycle req).flight.pw :=
  List.mem_map.2 ⟨w, List.mem_filter.2 ⟨List.mem_append_left _ h, by simpa using hleft⟩, rfl⟩

/-- The writes of a load that is due are in flight after the cycle. -/
theorem loaded_mem_drainCycle_pw {l : Load} (hl : l ∈ s.flight.pmLoads) (hdue : l.left = 0) {w : Write}
    (h : w ∈ loadWrites s l) : w.aged ∈ (s.drainCycle req).flight.pw := by
  have hdue : l ∈ s.dueLoads := List.mem_filter.2 ⟨hl, by simpa using hdue⟩
  have hpending : w ∈ s.flight.pw ++ s.dueLoads.flatMap (loadWrites s) :=
    List.mem_append_right _ (List.mem_flatMap.2 ⟨l, hdue, h⟩)
  exact List.mem_map.2 ⟨w, List.mem_filter.2 ⟨hpending, by simp [left_of_mem_loadWrites h]⟩, rfl⟩

theorem mem_drainCycle_pmLoads {l : Load} :
    l ∈ (s.drainCycle req).flight.pmLoads ↔ ∃ m ∈ s.flight.pmLoads, m.left ≠ 0 ∧ l = m.aged := by
  refine List.mem_map.trans (exists_congr fun m => ?_)
  rw [List.mem_filter, bne_iff_ne, and_assoc, eq_comm]
  rfl

theorem mem_drainCycle_pmStores {u : Store} :
    u ∈ (s.drainCycle req).flight.pmStores ↔ ∃ x ∈ s.flight.pmStores, x.left ≠ 0 ∧ u = x.aged := by
  refine List.mem_map.trans (exists_congr fun x => ?_)
  rw [List.mem_filter, bne_iff_ne, and_assoc, eq_comm]
  rfl

theorem mem_drainCycle_psat {n : Nat} (h : n ∈ (s.drainCycle req).flight.psat) : n + 1 ∈ s.flight.psat := by
  obtain ⟨m, hm, rfl⟩ := List.mem_map.1 h
  obtain ⟨hm, hne⟩ := List.mem_filter.1 hm
  rwa [Nat.sub_add_cancel (Nat.pos_of_ne_zero (by simpa using hne))]

theorem drainCycle_mem : (s.drainCycle req).mem = s.dueStores.foldl (performStore s.params.endian) s.mem :=
  State.landed_mem s.accessed

theorem drainCycle_params : (s.drainCycle req).params = s.params := State.landed_params s.accessed

end

/-- A property of one element of a list and of all others is one of every element. -/
theorem forall_mem_of_split {α : Type} {P : α → Prop} {l xs ys : List α} {a : α} (hl : l = xs ++ a :: ys) (ha : P a)
    (hothers : ∀ x ∈ xs ++ ys, P x) : ∀ x ∈ l, P x := by
  obtain ⟨hxs, hys⟩ := List.forall_mem_append.1 hothers
  exact hl ▸ List.forall_mem_append.2 ⟨hxs, List.forall_mem_cons.2 ⟨ha, hys⟩⟩

/-! ### The drain takes everything out of flight -/

/-- Everything in flight is over within `k` cycles. -/
structure Flight.OverIn (k : Nat) (f : Flight) : Prop where
  writes : ∀ w ∈ f.pw, w.left < k
  loads : ∀ l ∈ f.pmLoads, l.left + 4 < k
  stores : ∀ u ∈ f.pmStores, u.left < k
  sats : ∀ n ∈ f.psat, n < k

theorem Flight.OverIn.drainCycle {k : Nat} {req : Word} {s : State} (h : s.flight.OverIn (k + 1)) :
    (s.drainCycle req).flight.OverIn k where
  writes w hw := by
    rcases mem_drainCycle_pw hw with ⟨u, hu, hleft, rfl⟩ | ⟨l, hl, -, u, hu, rfl⟩
    · have := h.writes u hu
      simp only [Write.aged]
      omega
    · have := h.loads l hl
      simp only [Write.aged, left_of_mem_loadWrites hu]
      omega
  loads l hl := by
    obtain ⟨m, hm, hleft, rfl⟩ := mem_drainCycle_pmLoads.1 hl
    have := h.loads m hm
    simp only [Load.aged]
    omega
  stores u hu := by
    obtain ⟨x, hx, hleft, rfl⟩ := mem_drainCycle_pmStores.1 hu
    have := h.stores x hx
    simp only [Store.aged]
    omega
  sats n hn := Nat.lt_of_succ_lt_succ (h.sats _ (mem_drainCycle_psat hn))

theorem Flight.OverIn.drained {f : Flight} (h : f.OverIn 0) : f.drained = true :=
  Flight.drained_iff.2 ⟨List.eq_nil_iff_forall_not_mem.2 fun w hw => Nat.not_lt_zero _ (h.writes w hw),
    List.eq_nil_iff_forall_not_mem.2 fun l hl => Nat.not_lt_zero _ (h.loads l hl),
    List.eq_nil_iff_forall_not_mem.2 fun u hu => Nat.not_lt_zero _ (h.stores u hu),
    List.eq_nil_iff_forall_not_mem.2 fun n hn => Nat.not_lt_zero _ (h.sats n hn)⟩

theorem Flight.overIn_drainTime (f : Flight) : f.OverIn f.drainTime := by
  have hlat : loadDelay = 4 := rfl
  constructor
  · intro w hw
    have := List.le_sum_of_mem (List.mem_map_of_mem (f := fun w : Write => w.left) hw)
    simp only [Flight.drainTime]
    omega
  · intro l hl
    have := List.le_sum_of_mem (List.mem_map_of_mem (f := fun l : Load => l.left) hl)
    simp only [Flight.drainTime]
    omega
  · intro u hu
    have := List.le_sum_of_mem (List.mem_map_of_mem (f := fun u : Store => u.left) hu)
    simp only [Flight.drainTime]
    omega
  · intro n hn
    have := List.le_sum_of_mem hn
    simp only [Flight.drainTime]
    omega

theorem drained_of_drain {k : Nat} {req : Word} {s t : State} (hs : s.flight.OverIn k) (h : drain req k s = .next t) :
    t.flight.drained = true := by
  induction k generalizing s with
  | zero => cases h; exact hs.drained
  | succ k ih =>
    rcases drain_succ_eq_next h with ⟨hdrained, rfl⟩ | ⟨-, h⟩
    · exact hdrained
    · exact ih hs.drainCycle h

/-- Taking an interrupt: a property that the cycles of the drain keep holds of the drained state that is entered. -/
theorem takeInterrupt_keeps {P : State → Prop} {n : Nat} {req : Word} {s t : State}
    (hP : ∀ s, s.CanDrain → P s → P (s.drainCycle req)) (hs : P s) (h : takeInterrupt n req s = .next t) :
    ∃ u, P u ∧ u.flight.drained = true ∧ t = enterInterrupt n u := by
  obtain ⟨u, hu, rfl⟩ := takeInterrupt_eq_next h
  exact ⟨u, drain_keeps_of_drainCycle hP hs hu, drained_of_drain s.flight.overIn_drainTime hu, rfl⟩

/-! ### What a general register becomes (R157, R298, R351) -/

section
variable {side : Side} {r : RegNum} {v : Word} {req : Word} {s : State}

theorem drainCycle_gpr_of_ne (h : ∀ w ∈ s.flight.pw, w.left = 0 → w.target ≠ .gpr side r) (hcan : s.CanDrain) :
    (s.drainCycle req).gpr side r = s.gpr side r :=
  State.landed_gpr_of_ne (s := s.accessed) fun w hw => by
    rw [memPhase_dueWrites hcan.access, mem_dueWrites] at hw
    exact h w hw.1 hw.2

theorem drainCycle_gpr {w : Write} (hw : w ∈ s.flight.pw) (hleft : w.left = 0) (ht : w.target = .gpr side r)
    (hcan : s.CanDrain) : (s.drainCycle req).gpr side r = w.value := by
  have hdue := memPhase_dueWrites hcan.access
  exact foldl_applyWrite_gpr (hdue ▸ hcan.nodup) (hdue ▸ mem_dueWrites.2 ⟨hw, hleft⟩) ht s.accessed

variable (side r v) in
/-- The register has the value `v` once nothing is in flight: nothing that lands in it is in flight, or the pending write that
lands last gives it `v`, or the only thing in flight that lands in it is a load that reads `v` and no store is in flight. -/
inductive Becomes (s : State) : Prop where
  | value (hpw : ∀ w ∈ s.flight.pw, w.target ≠ .gpr side r) (hloads : ∀ l ∈ s.flight.pmLoads, ¬ l.lands side r)
      (hv : s.gpr side r = v)
  | write (w : Write) (hw : w ∈ s.flight.pw) (ht : w.target = .gpr side r) (hv : w.value = v)
      (hpw : ∀ u ∈ s.flight.pw, u.target = .gpr side r → u = w ∨ u.left < w.left)
      (hloads : ∀ l ∈ s.flight.pmLoads, l.lands side r → l.left + 4 < w.left)
  | load (l : Load) (hl : l ∈ s.flight.pmLoads) (w : Write) (hw : w ∈ loadWrites s l) (ht : w.target = .gpr side r)
      (hv : w.value = v) (hstores : s.flight.pmStores = []) (hpw : ∀ u ∈ s.flight.pw, u.target ≠ .gpr side r)
      (hloads : ∀ m ∈ s.flight.pmLoads, m.lands side r → m = l)

/-- A load that lands in the register after the cycle did so before it, one cycle later. -/
theorem lands_drainCycle {l : Load} (hl : l ∈ (s.drainCycle req).flight.pmLoads) (h : l.lands side r) :
    ∃ m ∈ s.flight.pmLoads, m.left ≠ 0 ∧ m.lands side r ∧ l = m.aged := by
  obtain ⟨m, hm, hleft, rfl⟩ := mem_drainCycle_pmLoads.1 hl
  exact ⟨m, hm, hleft, h, rfl⟩

/-- A write to the register after the cycle was in flight before it, or comes of a due load that lands in the register. -/
theorem targets_drainCycle {w : Write} (hw : w ∈ (s.drainCycle req).flight.pw) (h : w.target = .gpr side r) :
    (∃ u ∈ s.flight.pw, u.left ≠ 0 ∧ u.target = .gpr side r ∧ w = u.aged) ∨
    (∃ l ∈ s.flight.pmLoads, l.left = 0 ∧ l.lands side r ∧ ∃ u ∈ loadWrites s l, u.target = .gpr side r ∧ w = u.aged) := by
  rcases mem_drainCycle_pw hw with ⟨u, hu, hleft, rfl⟩ | ⟨l, hl, hdue, u, hu, rfl⟩
  · exact .inl ⟨u, hu, hleft, h, rfl⟩
  · exact .inr ⟨l, hl, hdue, lands_of_mem_loadWrites hu h, u, hu, h, rfl⟩

theorem Becomes.drainCycle (hcan : s.CanDrain) (h : Becomes side r v s) : Becomes side r v (s.drainCycle req) := by
  cases h with
  | value hpw hloads hv =>
    refine .value (fun w hw ht => ?_) (fun l hl hlands => ?_) ?_
    · rcases targets_drainCycle hw ht with ⟨u, hu, -, hut, -⟩ | ⟨l, hl, -, hlands, -⟩
      · exact hpw u hu hut
      · exact hloads l hl hlands
    · obtain ⟨m, hm, -, hlands, -⟩ := lands_drainCycle hl hlands
      exact hloads m hm hlands
    · rw [drainCycle_gpr_of_ne (fun w hw _ => hpw w hw) hcan, hv]
  | write w hw ht hv hpw hloads =>
    by_cases hleft : w.left = 0
    · refine .value (fun u hu hut => ?_) (fun l hl hlands => ?_) ?_
      · rcases targets_drainCycle hu hut with ⟨x, hx, hx0, hxt, -⟩ | ⟨l, hl, -, hlands, -⟩
        · rcases hpw x hx hxt with rfl | hlt
          · exact hx0 hleft
          · omega
        · have := hloads l hl hlands
          omega
      · obtain ⟨m, hm, -, hlands, -⟩ := lands_drainCycle hl hlands
        have := hloads m hm hlands
        omega
      · rw [drainCycle_gpr hw hleft ht hcan, hv]
    · refine .write w.aged (aged_mem_drainCycle_pw hw hleft) ht hv (fun u hu hut => ?_) (fun l hl hlands => ?_)
      · rcases targets_drainCycle hu hut with ⟨x, hx, hx0, hxt, rfl⟩ | ⟨l, hl, -, hlands, x, hx, -, rfl⟩
        · refine (hpw x hx hxt).imp (congrArg _) fun hlt => ?_
          simp only [Write.aged]
          omega
        · have := hloads l hl hlands
          refine .inr ?_
          simp only [Write.aged, left_of_mem_loadWrites hx]
          omega
      · obtain ⟨m, hm, hm0, hlands, rfl⟩ := lands_drainCycle hl hlands
        have := hloads m hm hlands
        simp only [Load.aged, Write.aged]
        omega
  | load l hl w hw ht hv hstores hpw hloads =>
    by_cases hdue : l.left = 0
    · refine .write w.aged (loaded_mem_drainCycle_pw hl hdue hw) ht hv (fun u hu hut => ?_) (fun m hm hlands => ?_)
      · rcases targets_drainCycle hu hut with ⟨x, hx, -, hxt, -⟩ | ⟨m, hm, -, hlands, x, hx, hxt, rfl⟩
        · exact absurd hxt (hpw x hx)
        · obtain rfl := hloads m hm hlands
          exact .inl (congrArg _ (eq_of_mem_loadWrites hx hw (hxt.trans ht.symm)))
      · obtain ⟨x, hx, hx0, hlands, -⟩ := lands_drainCycle hm hlands
        exact absurd hdue (hloads x hx hlands ▸ hx0)
    · have hsame : (s.drainCycle req).mem = s.mem := by rw [drainCycle_mem, State.dueStores_of_none hstores]; rfl
      refine .load l.aged (mem_drainCycle_pmLoads.2 ⟨l, hl, hdue, rfl⟩) w ?_ ht hv ?_ (fun u hu hut => ?_)
        (fun m hm hlands => ?_)
      · rw [mem_loadWrites, drainCycle_params, hsame]
        exact mem_loadWrites.1 hw
      · refine List.eq_nil_iff_forall_not_mem.2 fun u hu => ?_
        obtain ⟨x, hx, -⟩ := mem_drainCycle_pmStores.1 hu
        simp [hstores] at hx
      · rcases targets_drainCycle hu hut with ⟨x, hx, -, hxt, -⟩ | ⟨m, hm, hm0, hlands, -⟩
        · exact hpw x hx hxt
        · exact hdue (hloads m hm hlands ▸ hm0)
      · obtain ⟨x, hx, -, hlands, rfl⟩ := lands_drainCycle hm hlands
        exact congrArg _ (hloads x hx hlands)

theorem Becomes.gpr_of_drained (h : Becomes side r v s) (hdrained : s.flight.drained = true) : s.gpr side r = v := by
  obtain ⟨hnone, hnoload, -, -⟩ := Flight.drained_iff.1 hdrained
  cases h with
  | value _ _ hv => exact hv
  | write w hw => simp [hnone] at hw
  | load l hl => simp [hnoload] at hl

theorem Becomes.takeInterrupt {n : Nat} {t : State} (hs : Becomes side r v s) (h : takeInterrupt n req s = .next t) :
    t.gpr side r = v := by
  obtain ⟨u, hu, hdrained, rfl⟩ := takeInterrupt_keeps (fun _ => Becomes.drainCycle) hs h
  exact hu.gpr_of_drained hdrained

end

/-! ### What memory becomes (R95, R351) -/

theorem bytesAt_congr {m m' : Memory} {a n : Nat} (h : ∀ b, a ≤ b → b < a + n → readByte m' b = readByte m b) :
    bytesAt m' a n = bytesAt m a n := by
  induction n generalizing a with
  | zero => rfl
  | succ n ih =>
    rw [bytesAt, bytesAt, h a (by omega) (by omega), ih fun b hb hlt => h b (by omega) (by omega)]

theorem memRead_congr (e : Endian) {m m' : Memory} {a n : Nat}
    (h : ∀ b, a ≤ b → b < a + n → readByte m' b = readByte m b) : memRead e m' a n = memRead e m a n := by
  rw [memRead, memRead, bytesAt_congr h]

theorem disjointStores_iff {us : List Store} :
    disjointStores us = true ↔ us.Pairwise fun u x => overlap u x = false := by
  induction us with
  | nil => simp [disjointStores]
  | cons u us ih => simp [disjointStores, ih]

/-- A store writes none of the bytes of an access. -/
def Store.apart (x : Store) (a : Word) (z : Access) : Prop :=
  ∀ b, a.toNat ≤ b → b < a.toNat + z.bytes → ¬ x.covers b

theorem Store.apart_of_not_overlap {u x : Store} (h : overlap u x = false) : x.apart u.addr u.size := by
  intro b hb hlt ⟨hxb, hxlt⟩
  refine absurd (overlap_iff.2 ?_) (Bool.eq_false_iff.1 h)
  omega

theorem readByte_performStores_of_not_covers (e : Endian) {us : List Store} (m : Memory) {b : Nat}
    (h : ∀ x ∈ us, ¬ x.covers b) : readByte (us.foldl (performStore e) m) b = readByte m b :=
  readByte_performStores e us m b fun x hx => by
    have hout := h x hx
    simp only [Store.covers] at hout
    omega

/-- Stores that are apart from an access do not change what it reads. -/
theorem memRead_performStores (e : Endian) {us : List Store} {a : Word} {z : Access} (h : ∀ x ∈ us, x.apart a z)
    (m : Memory) : memRead e (us.foldl (performStore e) m) a.toNat z.bytes = memRead e m a.toNat z.bytes :=
  memRead_congr e fun b hb hlt => readByte_performStores_of_not_covers e m fun x hx => h x hx b hb hlt

/-- What the stores of a cycle leave where one of them writes (R95, R298). -/
theorem memRead_performed {e : Endian} {us : List Store} (hdisjoint : disjointStores us = true) {m : Memory}
    (hm : m.wf = true) (hal : ∀ x ∈ us, aligned x.size x.addr = true) {u : Store} (hu : u ∈ us) :
    memRead e (us.foldl (performStore e) m) u.addr.toNat u.size.bytes = u.value.toNat % 2 ^ (8 * u.size.bytes) := by
  obtain ⟨xs, ys, rfl⟩ := List.append_of_mem hu
  obtain ⟨-, htail, -⟩ := List.pairwise_append.1 (disjointStores_iff.1 hdisjoint)
  have hlater : ∀ y ∈ ys, y.apart u.addr u.size := fun y hy =>
    Store.apart_of_not_overlap (List.rel_of_pairwise_cons htail hy)
  have hbefore : (xs.foldl (performStore e) m).wf = true :=
    performStores_wf e xs hm fun x hx => hal x (List.mem_append_left _ hx)
  rw [List.foldl_append, List.foldl_cons, memRead_performStores e hlater]
  exact memRead_memWrite hbefore e _ (aligned_end (hal u hu))

section
variable {a : Word} {z : Access} {v : Word} {req : Word} {s : State}

variable (a z v) in
/-- The access at `a` reads the value `v` once nothing is in flight: no pending store writes there, or the only one that does
has this address, size and value. -/
inductive Stored (s : State) : Prop where
  | memory (hstores : ∀ x ∈ s.flight.pmStores, x.apart a z)
      (hv : memRead s.params.endian s.mem a.toNat z.bytes = v.toNat % 2 ^ (8 * z.bytes))
  | store (k : Nat) (hu : ⟨a, z, v, k⟩ ∈ s.flight.pmStores)
      (hstores : ∀ x ∈ s.flight.pmStores, x = ⟨a, z, v, k⟩ ∨ x.apart a z)

theorem memoryInv_drainCycle (hcan : s.CanDrain) (hs : memoryInv s) : memoryInv (s.drainCycle req) :=
  memoryInv_keptByAccesses.congr (memPhase_memoryInv hcan.access hs) (State.landed_params _) (State.landed_mem _)
    (List.Subset.refl _)

theorem Stored.drainCycle (hcan : s.CanDrain) (hinv : memoryInv s) (h : Stored a z v s) :
    Stored a z v (s.drainCycle req) := by
  cases h with
  | memory hstores hv =>
    refine .memory (fun u hu => ?_) ?_
    · obtain ⟨x, hx, -, rfl⟩ := mem_drainCycle_pmStores.1 hu
      exact hstores x hx
    · have hdue : ∀ x ∈ s.dueStores, x.apart a z := fun x hx => hstores x (List.mem_filter.1 hx).1
      rw [drainCycle_params, drainCycle_mem, memRead_performStores _ hdue, hv]
  | store k hu hstores =>
    by_cases hdue : k = 0
    · refine .memory (fun u hu => ?_) ?_
      · obtain ⟨x, hx, hleft, rfl⟩ := mem_drainCycle_pmStores.1 hu
        refine (hstores x hx).resolve_left ?_
        rintro rfl
        exact hleft hdue
      · obtain ⟨-, -, hdisjoint, -⟩ := memPhase_eq_next hcan.access
        obtain ⟨hwf, hal⟩ := hinv
        rw [drainCycle_params, drainCycle_mem]
        exact memRead_performed hdisjoint hwf (fun x hx => hal x (List.mem_filter.1 hx).1)
          (List.mem_filter.2 ⟨hu, by simpa using hdue⟩)
    · refine .store (k - 1) (mem_drainCycle_pmStores.2 ⟨_, hu, hdue, rfl⟩) fun u hu => ?_
      obtain ⟨x, hx, -, rfl⟩ := mem_drainCycle_pmStores.1 hu
      exact (hstores x hx).imp (congrArg Store.aged) id

theorem Stored.takeInterrupt {n : Nat} {t : State} (hinv : memoryInv s) (hs : Stored a z v s)
    (h : takeInterrupt n req s = .next t) :
    memRead t.params.endian t.mem a.toNat z.bytes = v.toNat % 2 ^ (8 * z.bytes) := by
  obtain ⟨u, ⟨-, hstored⟩, hdrained, rfl⟩ := takeInterrupt_keeps (P := fun u => memoryInv u ∧ Stored a z v u)
    (fun _ hcan ⟨hinv, hs⟩ => ⟨memoryInv_drainCycle hcan hinv, hs.drainCycle hcan hinv⟩) ⟨hinv, hs⟩ h
  cases hstored with
  | memory _ hv => exact hv
  | store k hu => simp [(Flight.drained_iff.1 hdrained).2.2.1] at hu

theorem readByte_drainCycle {b : Nat} (hs : ∀ u ∈ s.flight.pmStores, ¬ u.covers b) :
    readByte (s.drainCycle req).mem b = readByte s.mem b := by
  rw [drainCycle_mem]
  exact readByte_performStores_of_not_covers _ _ fun x hx => hs x (List.mem_filter.1 hx).1

/-- A byte that no pending store covers stays. -/
theorem readByte_takeInterrupt {n b : Nat} {t : State} (hs : ∀ u ∈ s.flight.pmStores, ¬ u.covers b)
    (h : takeInterrupt n req s = .next t) : readByte t.mem b = readByte s.mem b := by
  have hkept : ∀ u : State, u.CanDrain →
      (∀ x ∈ u.flight.pmStores, ¬ x.covers b) ∧ readByte u.mem b = readByte s.mem b →
      (∀ x ∈ (u.drainCycle req).flight.pmStores, ¬ x.covers b) ∧ readByte (u.drainCycle req).mem b = readByte s.mem b := by
    rintro u - ⟨hu, hb⟩
    refine ⟨fun y hy => ?_, (readByte_drainCycle hu).trans hb⟩
    obtain ⟨x, hx, -, rfl⟩ := mem_drainCycle_pmStores.1 hy
    exact hu x hx
  obtain ⟨u, ⟨-, hb⟩, -, rfl⟩ := takeInterrupt_keeps hkept ⟨hs, rfl⟩ h
  exact hb

end

/-! ### What SAT becomes (R409, R351) -/

section
variable {req : Word} {s : State}

/-- A write to a control register after the cycle was in flight before it. -/
theorem ctrl_targets_drainCycle {w : Write} {c : CtrlDest} (hw : w ∈ (s.drainCycle req).flight.pw)
    (h : w.target = .ctrl c) : ∃ u ∈ s.flight.pw, u.left ≠ 0 ∧ w = u.aged := by
  rcases mem_drainCycle_pw hw with hu | ⟨l, -, -, u, hu, rfl⟩
  · exact hu
  · exact absurd h (not_ctrl_of_mem_loadWrites hu c)

theorem Ctrl.land_csr_of_ne (c : Ctrl) {d : CtrlDest} (hd : d ≠ .csr) (w : Word) : (c.land d w).csr = c.csr := by
  cases d with
  | csr => exact absurd rfl hd
  | _ => rfl

theorem foldl_landWrite_csr {ws : List Write} (h : ∀ w ∈ ws, w.target ≠ .ctrl .csr) (c : Ctrl) :
    (ws.foldl Ctrl.landWrite c).csr = c.csr := by
  induction ws generalizing c with
  | nil => rfl
  | cons w ws ih =>
    have hw : (c.landWrite w).csr = c.csr := by
      unfold Ctrl.landWrite
      split
      · next d hd => exact c.land_csr_of_ne (fun heq => h w (by simp) (heq ▸ hd)) _
      · rfl
    rw [List.foldl_cons, ih fun u hu => h u (by simp [hu]), hw]

/-- Where a SAT entry is pending before a cycle, it is due or pending after it. -/
theorem any_due_or_pending (ns : List Nat) :
    (ns.any (· == 0) || !((ns.filter (· != 0)).map (· - 1)).isEmpty) = !ns.isEmpty := by
  cases ns with
  | nil => rfl
  | cons n ns => cases n <;> simp

theorem drainCycle_sat (hpw : ∀ w ∈ s.flight.pw, w.target ≠ .ctrl .csr) (hcan : s.CanDrain) :
    (s.drainCycle req).ctrl.csr.getLsbD 9 = (s.ctrl.csr.getLsbD 9 || s.flight.psat.any (· == 0)) := by
  have hlanded : s.accessed.landed.ctrl.csr = s.ctrl.csr := by
    refine (congrArg Ctrl.csr (foldl_applyWrite_ctrl_eq _ _)).trans (foldl_landWrite_csr (fun w hw => ?_) _)
    rw [memPhase_dueWrites hcan.access, mem_dueWrites] at hw
    exact hpw w hw.1
  have hcsr : (s.drainCycle req).ctrl.csr = if s.flight.psat.any (· == 0) then setSat s.ctrl.csr else s.ctrl.csr := by
    rw [← hlanded]
    rfl
  rw [hcsr]
  cases s.flight.psat.any (· == 0) <;> simp [setSat]

/-- The entry changes GIE and PGIE only. -/
theorem Ctrl.entry_csr_bit_of_two_le (c : Ctrl) (n : Nat) (pc : Word) {j : Nat} (h2 : 2 ≤ j) (hj : j < 32) :
    (c.entry n pc).csr.getLsbD j = c.csr.getLsbD j := by
  by_cases hn : n = 1
  · rw [hn, Ctrl.entry_nmi]
  · rw [Ctrl.entry_csr_bit c hn pc hj, if_neg (by omega), if_neg (by omega)]

/-- What SAT becomes: no write to CSR is in flight, and SAT is set or pending exactly when `b`. -/
structure SatBecomes (b : Bool) (s : State) : Prop where
  pw : ∀ w ∈ s.flight.pw, w.target ≠ .ctrl .csr
  sat : (s.ctrl.csr.getLsbD 9 || !s.flight.psat.isEmpty) = b

theorem SatBecomes.drainCycle {b : Bool} (hcan : s.CanDrain) (h : SatBecomes b s) : SatBecomes b (s.drainCycle req) where
  pw w hw ht := by
    obtain ⟨x, hx, -, rfl⟩ := ctrl_targets_drainCycle hw ht
    exact h.pw x hx ht
  sat := by
    rw [drainCycle_sat h.pw hcan, ← h.sat, Bool.or_assoc]
    exact congrArg _ (any_due_or_pending s.flight.psat)

/-- SAT is what it was, or a pending set of it. -/
theorem sat_takeInterrupt {n : Nat} {t : State} (hs : ∀ w ∈ s.flight.pw, w.target ≠ .ctrl .csr)
    (h : takeInterrupt n req s = .next t) :
    t.ctrl.csr.getLsbD 9 = (s.ctrl.csr.getLsbD 9 || !s.flight.psat.isEmpty) := by
  obtain ⟨u, hu, hdrained, rfl⟩ := takeInterrupt_keeps (fun _ => SatBecomes.drainCycle) ⟨hs, rfl⟩ h
  obtain ⟨-, -, -, hnone⟩ := Flight.drained_iff.1 hdrained
  rw [enterInterrupt_ctrl, Ctrl.entry_csr_bit_of_two_le _ _ _ (by omega) (by omega), ← hu.sat, hnone]
  simp

end

/-! ### What the interrupt flags become (R410, R343, R351) -/

section
variable {req : Word} {s : State} {j : Nat}

theorem drainCycle_ifr_bit (h4 : 4 ≤ j) (h15 : j ≤ 15) :
    (s.drainCycle req).ctrl.ifr.getLsbD j = (s.accessed.landed.ctrl.ifr.getLsbD j || req.getLsbD j) := by
  have hbit := raiseFlags_bit (landSat s.accessed.landed) req j
  rwa [decide_eq_true (.inr ⟨h4, h15⟩), Bool.and_true] at hbit

theorem Ctrl.land_isr_bit (c : Ctrl) (w : Word) (h4 : 4 ≤ j) (h15 : j ≤ 15) :
    (c.land .isr w).ifr.getLsbD j = (c.ifr.getLsbD j || w.getLsbD j) := by
  simp [Ctrl.land, maskableFlags_bit j (by omega), h4, h15]

theorem Ctrl.land_icr_bit (c : Ctrl) (w : Word) (h4 : 4 ≤ j) (h15 : j ≤ 15) :
    (c.land .icr w).ifr.getLsbD j = (c.ifr.getLsbD j && !w.getLsbD j) := by
  have hj : j < 32 := by omega
  simp only [Ctrl.land, BitVec.getLsbD_and, BitVec.getLsbD_not, maskableFlags_bit j hj, hj, h4, h15]
  simp

/-- Requests may come before a write to a control register lands or after it, if they come again after it. -/
theorem Ctrl.land_ifr_bit_or {c d : Ctrl} {q : Bool} (h : d.ifr.getLsbD j = (c.ifr.getLsbD j || q)) (x : CtrlDest)
    (w : Word) (h4 : 4 ≤ j) (h15 : j ≤ 15) :
    ((d.land x w).ifr.getLsbD j || q) = ((c.land x w).ifr.getLsbD j || q) := by
  cases x with
  | isr =>
    rw [Ctrl.land_isr_bit d w h4 h15, Ctrl.land_isr_bit c w h4 h15, h]
    cases q <;> simp
  | icr =>
    rw [Ctrl.land_icr_bit d w h4 h15, Ctrl.land_icr_bit c w h4 h15, h]
    cases q <;> simp
  | _ => simp [Ctrl.land, h]

/-- A list of writes one of which is the only one to a control register, one cycle later. -/
theorem others_aged {xs ys : List Write} (h : ∀ u ∈ xs ++ ys, ∀ d, u.target ≠ .ctrl d) :
    ∀ u ∈ (xs.filter fun u => u.left != 0).map Write.aged ++ (ys.filter fun u => u.left != 0).map Write.aged,
      ∀ d, u.target ≠ .ctrl d := by
  intro u hu
  rw [← List.map_append, ← List.filter_append] at hu
  obtain ⟨x, hx, rfl⟩ := List.mem_map.1 hu
  exact h x (List.mem_filter.1 hx).1

variable (req j) in
/-- Flag `j` has the value `b` once nothing is in flight: no write to a control register is in flight and no request changes
`b`, or the only one that is gives it `b` with the requests of the cycle after it. -/
inductive FlagBecomes (b : Bool) (s : State) : Prop where
  | flag (hpw : ∀ w ∈ s.flight.pw, ∀ c, w.target ≠ .ctrl c) (hb : s.ctrl.ifr.getLsbD j = b)
      (hreq : (b || req.getLsbD j) = b)
  | write (xs ys : List Write) (w : Write) (c : CtrlDest) (hpw : s.flight.pw = xs ++ w :: ys) (ht : w.target = .ctrl c)
      (hothers : ∀ u ∈ xs ++ ys, ∀ d, u.target ≠ .ctrl d)
      (hb : ((s.ctrl.land c w.value).ifr.getLsbD j || req.getLsbD j) = b)

theorem FlagBecomes.drainCycle {b : Bool} (h4 : 4 ≤ j) (h15 : j ≤ 15) (hcan : s.CanDrain) (h : FlagBecomes req j b s) :
    FlagBecomes req j b (s.drainCycle req) := by
  have hdue := memPhase_dueWrites hcan.access
  have hbit := drainCycle_ifr_bit (req := req) (s := s) h4 h15
  cases h with
  | flag hpw hb hreq =>
    refine .flag (fun w hw c ht => ?_) ?_ hreq
    · obtain ⟨u, hu, -, rfl⟩ := ctrl_targets_drainCycle hw ht
      exact hpw u hu c ht
    · have hsame : s.accessed.landed.ctrl = s.ctrl :=
        State.landed_ctrl_of_gprs fun w hw => hpw w (mem_dueWrites.1 (hdue ▸ hw)).1
      rw [hbit, hsame, hb, hreq]
  | write xs ys w c hpw ht hothers hb =>
    have hpw' : s.accessed.flight.pw = xs ++ w :: (ys ++ s.dueLoads.flatMap (loadWrites s)) := by
      simp [State.accessed, hpw]
    have hothers' : ∀ u ∈ xs ++ (ys ++ s.dueLoads.flatMap (loadWrites s)), ∀ d, u.target ≠ .ctrl d := by
      rw [← List.append_assoc]
      refine List.forall_mem_append.2 ⟨hothers, fun u hu => ?_⟩
      obtain ⟨l, -, hl⟩ := List.mem_flatMap.1 hu
      exact not_ctrl_of_mem_loadWrites hl
    by_cases hleft : w.left = 0
    · have hlanded : s.accessed.landed.ctrl = s.ctrl.land c w.value :=
        State.landed_ctrl_of_single hpw' hleft ht fun u hu _ => hothers' u hu
      have hnone : ∀ u ∈ s.flight.pw, u.left ≠ 0 → ∀ d, u.target ≠ .ctrl d :=
        forall_mem_of_split hpw (fun h0 => absurd hleft h0) fun u hu _ => hothers u hu
      refine .flag (fun u hu d hd => ?_) (by rw [hbit, hlanded, hb]) (by simp [← hb])
      obtain ⟨x, hx, hx0, rfl⟩ := ctrl_targets_drainCycle hu hd
      exact hnone x hx hx0 d hd
    · have hnone : ∀ u ∈ s.flight.pw, u.left = 0 → ∀ d, u.target ≠ .ctrl d :=
        forall_mem_of_split hpw (fun h0 => absurd h0 hleft) fun u hu _ => hothers u hu
      have hsame : s.accessed.landed.ctrl = s.ctrl := State.landed_ctrl_of_gprs fun u hu => by
        obtain ⟨hmem, hu0⟩ := mem_dueWrites.1 (hdue ▸ hu)
        exact hnone u hmem hu0
      have hpending : (s.drainCycle req).flight.pw = (s.accessed.flight.pw.filter fun u => u.left != 0).map Write.aged := rfl
      rw [hpw', List.filter_append, List.filter_cons_of_pos (by simpa using hleft), List.map_append, List.map_cons]
        at hpending
      refine .write _ _ w.aged c hpending ht (others_aged hothers') ?_
      rw [← hb]
      exact Ctrl.land_ifr_bit_or (by rw [hbit, hsame]) c w.value h4 h15

theorem FlagBecomes.takeInterrupt {b : Bool} {n : Nat} {t : State} (h4 : 4 ≤ j) (h15 : j ≤ 15) (hn : j ≠ n)
    (hs : FlagBecomes req j b s) (h : takeInterrupt n req s = .next t) : t.ctrl.ifr.getLsbD j = b := by
  obtain ⟨u, hu, hdrained, rfl⟩ := takeInterrupt_keeps (fun _ => FlagBecomes.drainCycle h4 h15) hs h
  obtain ⟨hnone, -⟩ := Flight.drained_iff.1 hdrained
  rw [enterInterrupt_ctrl, Ctrl.entry_ifr_bit _ _ _ (by omega), decide_eq_false hn]
  cases hu with
  | flag _ hb => exact hb
  | write xs ys w c hpw => simp [hnone] at hpw

end

/-! ### Taking an interrupt (R351) -/

section
variable {s t : State} {n : Nat} {req : Word}

theorem drained_takeInterrupt (h : takeInterrupt n req s = .next t) : t.flight.drained = true := by
  obtain ⟨u, -, hdrained, rfl⟩ := takeInterrupt_keeps (P := fun _ => True) (fun _ _ _ => trivial) trivial h
  exact hdrained

/-- The return address is the pc from before, in the register of the interrupt's kind (R352, R353). -/
theorem returnAddress_takeInterrupt (h : takeInterrupt n req s = .next t) :
    (n = 1 → t.ctrl.nrp = s.pc) ∧ (n ≠ 1 → t.ctrl.irp = s.pc) := by
  obtain ⟨-, -, u, hpc, rfl⟩ := takeInterrupt_frame h
  refine ⟨fun hn => ?_, fun hn => ?_⟩
  · rw [enterInterrupt_ctrl, hn, Ctrl.entry_nmi, hpc]
  · rw [enterInterrupt_ctrl, Ctrl.entry_maskable _ hn, hpc]

/-- A pending load that nothing in flight competes with gives its register what it reads now, if no store is in flight. -/
theorem becomes_of_load {xs ys : List Load} {l : Load} (hl : s.flight.pmLoads = xs ++ l :: ys)
    (hstores : s.flight.pmStores = []) {w : Write} (hw : w ∈ loadWrites s l) {side : Side} {r : RegNum}
    (ht : w.target = .gpr side r) (hpw : ∀ u ∈ s.flight.pw, u.target ≠ .gpr side r)
    (hothers : ∀ m ∈ xs ++ ys, ¬ m.lands side r) : Becomes side r w.value s := by
  have honly : ∀ m ∈ s.flight.pmLoads, m.lands side r → m = l :=
    forall_mem_of_split hl (fun _ => rfl) fun m hm hlands => absurd hlands (hothers m hm)
  exact .load l (by simp [hl]) w hw ht rfl hstores hpw honly

/-- The pending write to a register that lands last gives it its value. -/
theorem becomes_of_last_write {xs ys : List Write} {w : Write} (hw : s.flight.pw = xs ++ w :: ys) {side : Side} {r : RegNum}
    (ht : w.target = .gpr side r) (hothers : ∀ u ∈ xs ++ ys, u.target = .gpr side r → u.left < w.left)
    (hloads : ∀ l ∈ s.flight.pmLoads, l.lands side r → l.left + 4 < w.left) : Becomes side r w.value s := by
  have hlast : ∀ u ∈ s.flight.pw, u.target = .gpr side r → u = w ∨ u.left < w.left :=
    forall_mem_of_split hw (fun _ => .inl rfl) fun u hu hut => .inr (hothers u hu hut)
  exact .write w (by simp [hw]) ht rfl hlast hloads

/-- A pending store that no other one overlaps reaches memory. -/
theorem stored_of_store {xs ys : List Store} {u : Store} (hu : s.flight.pmStores = xs ++ u :: ys)
    (hothers : ∀ x ∈ xs ++ ys, ∀ b, ¬ (u.covers b ∧ x.covers b)) : Stored u.addr u.size u.value s := by
  have honly : ∀ x ∈ s.flight.pmStores, x = u ∨ x.apart u.addr u.size :=
    forall_mem_of_split hu (.inl rfl) fun x hx => .inr fun b hb hlt hxb => hothers x hx b ⟨⟨hb, hlt⟩, hxb⟩
  exact .store u.left (by simp [hu]) honly

end

/-- Settles O44: each kind of effect in flight has an invariant of the cycles of the drain, which says what it becomes. -/
theorem interruptDrainsWhatIsInFlight : Obligations.InterruptDrainsWhatIsInFlight := by
  intro s t n requests h
  obtain ⟨hparams, hpb, -⟩ := takeInterrupt_frame h
  obtain ⟨hnrp, hirp⟩ := returnAddress_takeInterrupt h
  refine ⟨drained_takeInterrupt h, hpb, hparams, hnrp, hirp, fun side r hpw hloads => ?untouched,
    fun xs w ys side r hw ht hothers hloads => ?write, fun xs l ys hl hstores => ?load,
    fun hinv xs u ys hu hothers => ?store, fun b hb => readByte_takeInterrupt hb h, fun hcsr => sat_takeInterrupt hcsr h,
    fun xs w ys hw hothers j h4 h15 hj => ?flags⟩
  case untouched => exact Becomes.takeInterrupt (.value hpw hloads rfl) h
  case write => exact (becomes_of_last_write hw ht hothers hloads).takeInterrupt h
  case load =>
    refine ⟨fun ⟨hpw, hothers⟩ => ?_, fun hz ⟨hpw, hothers⟩ => ?_⟩
    · exact (becomes_of_load hl hstores (mem_loadWrites.2 (.inl rfl)) rfl hpw hothers).takeInterrupt h
    · exact (becomes_of_load hl hstores (mem_loadWrites.2 (.inr ⟨hz, rfl⟩)) rfl hpw hothers).takeInterrupt h
  case store =>
    rw [← hparams]
    exact (stored_of_store hu hothers).takeInterrupt hinv h
  case flags =>
    refine ⟨fun ht => ?_, fun ht => ?_⟩
    · rw [FlagBecomes.takeInterrupt h4 h15 hj (.write xs ys w .isr hw ht hothers rfl) h, Ctrl.land_isr_bit _ _ h4 h15]
    · rw [FlagBecomes.takeInterrupt h4 h15 hj (.write xs ys w .icr hw ht hothers rfl) h, Ctrl.land_icr_bit _ _ h4 h15]

end Sys2Proof.Machine

/-! PROOFS. When the register of a load changes in a waiting machine (O34; R95, R157, R298, R412). -/
namespace Sys2Proof.Machine

/-! ### Writes to general registers in a waiting machine -/

/-- In a waiting machine each of several writes to different general registers lands when its cycles are over, and not
sooner. -/
theorem run_of_writes {k : Nat} : ∀ {s : State}, ResultsOnly s → (∀ w ∈ s.flight.pw, ∀ c, w.target ≠ .ctrl c) →
    (s.flight.pw.map fun w => w.target.named).Nodup → ∃ t : State, Host.Core.run Sys2Proof.core k s = .next t ∧
      (∀ w ∈ s.flight.pw, w.left < k → ∀ side r, w.target = .gpr side r → t.gpr side r = w.value) ∧
      (∀ side r, (∀ w ∈ s.flight.pw, w.target = .gpr side r → k ≤ w.left) → t.gpr side r = s.gpr side r) := by
  induction k with
  | zero => exact fun _ _ _ => ⟨_, rfl, by simp, fun _ _ _ => rfl⟩
  | succ k ih =>
    intro s h hgprs hnodup
    have hdueNodup : (s.dueWrites.map fun w => w.target.named).Nodup :=
      hnodup.sublist (List.filter_sublist.map _)
    have hctrl : s.landed.ctrl = s.ctrl := State.landed_ctrl_of_gprs fun w hw => hgprs w (mem_dueWrites.1 hw).1
    have hpw : s.tick.flight.pw = (s.flight.pw.filter fun w => w.left != 0).map Write.aged := rfl
    have hpending : ∀ u ∈ s.tick.flight.pw, ∃ w ∈ s.flight.pw, w.left ≠ 0 ∧ w.aged = u := by
      simp [hpw, and_assoc]
    have hnames : (s.tick.flight.pw.map fun w => w.target.named).Nodup := by
      rw [hpw, List.map_map]
      exact hnodup.sublist (List.filter_sublist.map _)
    obtain ⟨t, ht, hlands, hstays⟩ := ih (h.tick hctrl)
      (fun u hu => let ⟨w, hw, _, hwu⟩ := hpending u hu; hwu ▸ hgprs w hw) hnames
    refine ⟨t, (run_succ_of_step (h.step_eq hdueNodup) k).trans ht, fun w hw hk side r hwt => ?_, fun side r hnone => ?_⟩
    · by_cases hdue : w.left = 0
      · have hlanded : s.tick.gpr side r = w.value := foldl_applyWrite_gpr hdueNodup (mem_dueWrites.2 ⟨hw, hdue⟩) hwt s
        refine (hstays side r fun u hu hut => ?_).trans hlanded
        obtain ⟨x, hx, hx0, rfl⟩ := hpending u hu
        have hxt : x.target = w.target := hut.trans hwt.symm
        exact absurd hdue (List.inj_on_of_nodup_map hnodup hx hw (congrArg _ hxt) ▸ hx0)
      · have hleft : w.aged.left < k := by
          simp only [Write.aged]
          omega
        exact hlands w.aged (List.mem_map.2 ⟨w, List.mem_filter.2 ⟨hw, by simpa using hdue⟩, rfl⟩) hleft side r hwt
    · have hlanded : s.tick.gpr side r = s.gpr side r := State.landed_gpr_of_ne fun w hw hwt => by
        obtain ⟨hw, hdue⟩ := mem_dueWrites.1 hw
        have := hnone w hw hwt
        omega
      refine (hstays side r fun u hu hut => ?_).trans hlanded
      obtain ⟨w, hw, -, rfl⟩ := hpending u hu
      have := hnone w hw hut
      simp only [Write.aged]
      omega

/-! ### A load alone in flight -/

/-- The two registers of LDDW are different, so that the writes of a load are no conflict (R157, R298). -/
theorem loadWrites_named_nodup (s : State) (l : Load) : ((loadWrites s l).map fun w => w.target.named).Nodup := by
  obtain ⟨a, z, g, side, r, n⟩ := l
  rw [loadWrites_eq]
  split <;> simp [Target.named]

/-- After the accesses of a cycle its other phases are those of a machine that makes none (R95). -/
theorem State.waiting.step_accessed {s : State} (h : s.waiting) (hmem : memPhase s = .next s.accessed)
    (hl : s.accessed.flight.pmLoads = []) (hs : s.accessed.flight.pmStores = []) : step s = step s.accessed := by
  have haccessed : s.accessed.waiting := h
  rw [h.step_eq, haccessed.step_eq, endOfCycle, endOfCycle, hmem, memPhase_of_no_access hl hs]
  rfl

/-- A load that is due and alone in flight: its writes land after four delay slots, and no other register changes. -/
theorem run_of_load {s : State} {l : Load} (hwait : s.waiting) (hloads : s.flight.pmLoads = [l]) (hdue : l.left = 0)
    (hacc : s.accessible l.addr l.size = true) (hpw : s.flight.pw = []) (hpb : s.flight.pb = [])
    (hstores : s.flight.pmStores = []) (k : Nat) : ∃ t : State, Host.Core.run Sys2Proof.core k s = .next t ∧
      (∀ w ∈ loadWrites s l, ∀ side r, w.target = .gpr side r →
        t.gpr side r = if k ≤ 4 then s.gpr side r else w.value) ∧
      (∀ side r, ¬ l.lands side r → t.gpr side r = s.gpr side r) := by
  cases k with
  | zero => exact ⟨s, rfl, by simp, fun _ _ _ => rfl⟩
  | succ k =>
    have hdueLoads : s.dueLoads = [l] := by simp [State.dueLoads, hloads, hdue]
    have hdueStores : s.dueStores = [] := State.dueStores_of_none hstores
    have hmem : memPhase s = .next s.accessed := by
      rw [memPhase_of_accessible (by simp [hdueLoads, hacc]) (by simp [hdueStores]), hdueStores]
      rfl
    have hpending : s.accessed.flight.pw = loadWrites s l := by simp [State.accessed, hpw, hdueLoads]
    have hresults : ResultsOnly s.accessed :=
      { waiting := hwait, loads := by simp [State.accessed, hloads, hdue], stores := by simp [State.accessed, hstores]
        branches := hpb }
    obtain ⟨t, ht, hlands, hstays⟩ := run_of_writes (k := k + 1) hresults
      (by rw [hpending]; exact fun w hw => not_ctrl_of_mem_loadWrites hw)
      (by rw [hpending]; exact loadWrites_named_nodup s l)
    rw [hpending] at hlands hstays
    have hrun : Host.Core.run Sys2Proof.core (k + 1) s = Host.Core.run Sys2Proof.core (k + 1) s.accessed := by
      have hstep := hwait.step_accessed hmem hresults.loads hresults.stores
      simp only [Host.Core.run, core, hstep]
    refine ⟨t, hrun.trans ht, fun w hw side r hwt => ?_, fun side r hnot => ?_⟩
    · split
      · next hk => exact hstays side r fun u hu _ => (left_of_mem_loadWrites hu).symm ▸ hk
      · next hk => exact hlands w hw (by rw [left_of_mem_loadWrites hw]; omega) side r hwt
    · exact hstays side r fun w hw hwt => absurd (lands_of_mem_loadWrites hw hwt) hnot

/-- Settles O34: the writes of the load are those of `loadWrites_eq`, the second one for LDDW only. -/
theorem loadedValueLandsAfterFourSlots : Obligations.LoadedValueLandsAfterFourSlots := by
  intro s a z g side r k hwait hloads hacc hpw _ hpb hstores
  obtain ⟨t, ht, hlands, hstays⟩ := run_of_load hwait hloads rfl hacc hpw hpb hstores k
  refine ⟨t, ht, hlands _ (mem_loadWrites.2 (.inl rfl)) side r rfl, fun hz => ?_, fun side' r' hnot => ?_⟩
  · subst hz
    exact hlands _ (mem_loadWrites.2 (.inr ⟨rfl, rfl⟩)) side (r + 1) rfl
  · exact hstays side' r' fun ⟨hside, hr⟩ => hnot ⟨hside.symm, hr⟩

end Sys2Proof.Machine

/-! PROOFS. The step in which reset is asserted (O46; R37, R55, R391, R393). -/
namespace Sys2Proof.Machine

/-- CSR at reset, field by field: CPU ID, REVISION ID, EN, and 0 elsewhere (R37, R55). -/
theorem csrReset_fields (p : Params) :
    (csrReset p).extractLsb' 24 8 = p.cpuId ∧ (csrReset p).extractLsb' 16 8 = p.revId ∧
    (csrReset p).extractLsb' 9 7 = 0 ∧ (csrReset p).getLsbD 8 = decide (p.endian = .little) ∧
    (csrReset p).extractLsb' 0 8 = 0 := by
  have hword : field (csrReset p) 0 (8 + 8 + 7 + 1 + 8) =
      p.cpuId ++ p.revId ++ 0#7 ++ BitVec.ofBool (p.endian == .little) ++ 0#8 := field_zero_32 _
  obtain ⟨hhigh, hlow⟩ := fields_of_append hword
  obtain ⟨hhigh, hen⟩ := fields_of_append hhigh
  obtain ⟨hids, hzero⟩ := fields_of_append hhigh
  obtain ⟨hcpu, hrev⟩ := fields_of_append hids
  refine ⟨hcpu, hrev, hzero, ?_, hlow⟩
  simpa [flag, beq_eq_decide] using flag_of_field hen 0 Nat.one_pos

/-- Settles O46: the step is the reset entry (`step_of_reset`); all but the fields of CSR is read off `Ctrl.reset` and
`Flight.empty`. -/
theorem resetEntryValues : Obligations.ResetEntryValues := by
  intro s hreset
  obtain ⟨hcpu, hrev, hzero, hen, hlow⟩ := csrReset_fields s.params
  exact ⟨_, step_of_reset hreset, rfl, rfl, rfl, rfl, rfl, rfl, rfl, hcpu, hrev, hzero, hen, hlow, rfl, rfl,
    rfl, rfl, rfl, rfl, rfl, rfl, rfl, rfl, rfl, rfl⟩

end Sys2Proof.Machine
